-- ==== Sys2Proof/Word.lean ====
section
/-! DEFINITION. The words of the carriage line and the plainest arithmetic on them. -/

namespace Sys2Proof

/-- One byte of a notice body. -/
abbrev Byte := BitVec 8

/-- A two-byte field: pass and row numbers (R41, R21), station masks, colour sets. -/
abbrev Word16 := BitVec 16

/-- A station number 0 to 15 (R175). -/
abbrev StationNo := BitVec 4

/-- A set of stations 0 to 15 or of colours 0 to 15, one flag each. -/
abbrev Flags16 := BitVec 16

end Sys2Proof
end

