-- ==== Sys2Proof/Config.lean ====
section
/-! DEFINITION. What the manual fixes for every KS210: limits, times and codes. No value of the
manual is left open, so there is no free value here. -/

namespace Sys2Proof.Config

/-- Status counters are 16 bits wide and saturate (00, Times and counts). -/
def counterMax : Nat := 65535

/-- The lower limit of the position counter (R3). -/
def posMin : Int := -4194304

/-- The upper limit of the position counter (R3). -/
def posMax : Int := 4194303

/-- Counts the carriage must come back to turn (R4, R5). -/
def hysteresis : Int := 16

/-- The largest working width, taken for clamping before SETUP (R128, R178). -/
def widthMax : Nat := 4096

/-- Spans a row may hold (R21, R31). -/
def spanMax : Nat := 384

/-- Orders the queue may hold (R42, R46). -/
def queueMax : Nat := 8

/-- Entries the outcome list may hold (R77). -/
def outcomeMax : Nat := 8

/-- Notices the transmit list may hold (R156). -/
def transmitMax : Nat := 16

/-- Clean windows that return the line health to GOOD (R167). -/
def cleanMax : Nat := 16

/-- The window error count saturates here (R166). -/
def windowErrorMax : Nat := 255

/-- The most racking an order may carry, either way (R42). -/
def rackingMax : Int := 24

/-- Needles a carrier may be parked beyond either end of the bed (R128). -/
def parkBeyond : Int := 64

/-- The rail filter's time, in microseconds (R120). -/
def railFilterTime : Nat := 1000

/-- The longest driver request, in microseconds (R164). -/
def guardLimit : Nat := 80

/-- The quiet time after which a cut guard returns, in microseconds (R165). -/
def guardRelease : Nat := 2000

/-- The idle time that permits a start, in bit times (R150). -/
def idleNeeded : Nat := 3

/-- The sender number of the pattern node and the target meaning all stations (00, R162). -/
def nodeNumber : Nat := 31

/-- Both page counts are carried saturated here (R172). -/
def reportPageMax : Nat := 255

end Sys2Proof.Config
end

