-- ==== Sys2Proof/Syntax.lean ====
section
/-! DEFINITION. The commands: one constructor of `Instr` for each row of spec/opcode_table.json, with
the levels the pins show or the fields the notice carries (R170 to R174), raw as they are sent. -/

namespace Sys2Proof

/-- The check of R159 at which a notice was discarded. -/
inductive LineErrorKind
  | length | check | classCode | bodyLength
  deriving DecidableEq, Repr

/-- The body of a SPAN (R174). The low four bits of `colour` give the colour. -/
structure SpanBody where
  row : Word16
  mask : Flags16
  first : Word16
  length : Word16
  colour : Byte
  deriving DecidableEq, Repr

/-- The body of a CLOSE (R174). -/
structure CloseBody where
  row : Word16
  mask : Flags16
  count : Word16
  deriving DecidableEq, Repr

/-- The body of an ORDER, its coded fields as sent (R171). -/
structure OrderBody where
  pass : Word16
  row : Word16
  courseType : BitVec 2
  direction : BitVec 2
  role : BitVec 3
  selected : BitVec 4
  unselected : BitVec 4
  colours : Flags16
  listen : Flags16
  carrier : Byte
  source : Byte
  announce : Bool
  floatTie : Bool
  step : BitVec 5
  winFirst : Word16
  winLast : Word16
  racking : Byte
  deriving DecidableEq, Repr

/-- The body of a BACKING: a length and 32 entries of two bits, entry 0 in the highest two (R174). -/
structure BackingBody where
  length : Byte
  entries : BitVec 64
  deriving DecidableEq, Repr

/-- The body of a SETUP, field by field (R173). -/
structure SetupBody where
  width : Word16
  pitch : Word16
  kref : BitVec 24
  offset : BitVec 24
  phase : Word16
  anticipation : Word16
  nearest : Bool
  trust : Bool
  useRow : Bool
  fireDeadline : Byte
  faultLimit : Byte
  floatLimit : Byte
  runLimit : Byte
  tolerance : Byte
  errorThreshold : Byte
  pinOffset : BitVec 24
  drop : Byte
  unclean : Byte
  deriving DecidableEq, Repr

/-- The body of a CLAIM (R170). -/
structure ClaimBody where
  pass : Word16
  row : Word16
  first : Word16
  count : Byte
  result : Byte
  deriving DecidableEq, Repr

/-- The commands of the station. A `target` is the lowest five bits of the target byte (R152); a
`sender` of a peer's notice is 0 to 15 (R161); a `position` is signed, -32,768 meaning unknown. -/
inductive Instr
  /-- ENCODER_EDGE: the levels of A and B after a change (R1). -/
  | encoderEdge (a b : Bool)
  /-- REFERENCE_MARK: the REF input becomes active (R7). -/
  | referenceMark
  /-- HEAD_CONFIRM: the head confirm input becomes active (R113). -/
  | headConfirm
  /-- FIRE_DEADLINE: the time of a fire's deadline is reached (R114). -/
  | fireDeadline
  /-- RAIL_INPUT_CHANGE: the level of the rail-good input after a change (R120). -/
  | railInputChange (level : Bool)
  /-- RAIL_FILTER_EXPIRY: the input has held its level for 1 ms (R120). -/
  | railFilterExpiry
  /-- PIN_CONFIRM: the pin confirm input becomes active (R140). -/
  | pinConfirm
  /-- ENGAGEMENT_DEADLINE: the deadline of an engagement is reached (R140). -/
  | engagementDeadline
  /-- RELEASE_DEADLINE: the deadline of a release is reached (R142). -/
  | releaseDeadline
  /-- SPAN (R25). -/
  | span (body : SpanBody)
  /-- CLOSE (R32). -/
  | close (body : CloseBody)
  /-- ORDER (R41). -/
  | order (target : BitVec 5) (body : OrderBody)
  /-- BACKING (R55). -/
  | backing (target : BitVec 5) (body : BackingBody)
  /-- PLACE (R129). -/
  | place (carrier : Byte) (position : Word16)
  /-- TAKE from a station (R130). -/
  | take (sender : StationNo) (pass : Word16) (carrier : Byte)
  /-- PICK from a station (R131). -/
  | pick (sender : StationNo) (pass : Word16) (carrier : Byte)
  /-- PARK from a station (R132). -/
  | park (sender : StationNo) (pass : Word16) (carrier : Byte) (position : Word16)
  /-- CLAIM from a station (R100). -/
  | claim (sender : StationNo) (body : ClaimBody)
  /-- REPORT from a station, its 22 body bytes as one number (R163). -/
  | report (sender : StationNo) (body : BitVec 176)
  /-- STATUS from a station, its 32 body bytes as one number (R163). -/
  | status (sender : StationNo) (body : BitVec 256)
  /-- SETUP (R178). -/
  | setup (target : BitVec 5) (body : SetupBody)
  /-- RESET: a course reset (R182). -/
  | reset (target : BitVec 5)
  /-- CLEAR_STOP: a CLEAR with clear-stop (R186). -/
  | clearStop (target : BitVec 5)
  /-- CLEAR_STICKY: a CLEAR with clear-sticky (R186). -/
  | clearSticky (target : BitVec 5)
  /-- QUERY_PAGE_0 (R189). -/
  | queryPage0 (target : BitVec 5) (clear : Byte)
  /-- QUERY_PAGE_1 (R190). -/
  | queryPage1 (target : BitVec 5) (clear : Byte)
  /-- QUERY_PAGE_2 (R191). -/
  | queryPage2 (target : BitVec 5) (clear : Byte)
  /-- QUERY_UNKNOWN_PAGE: a QUERY of a page other than 0, 1 and 2 (R188). -/
  | queryUnknownPage (target : BitVec 5) (page clear : Byte)
  /-- LINE_ERROR: a notice fails a check of R159. -/
  | lineError (kind : LineErrorKind)
  /-- SYMBOL_ERROR: an illegal cell while receiving (R151). -/
  | symbolError
  /-- FOREIGN_NOTICE: a good notice of this kind code from this sender (R161). -/
  | foreignNotice (kind sender : BitVec 5)
  /-- ADDRESS_CLASH: a good notice of this kind code bearing the station's own number (R160). -/
  | addressClash (kind : BitVec 5)
  /-- RECEIVER_IDLE: the line has been recessive for 3 bit times (R151). -/
  | receiverIdle
  /-- TRANSMIT_START: the station's own start mark, once it may begin (R157). -/
  | transmitStart
  /-- NOTICE_SENT: the end mark of the station's own notice is sent (R157). -/
  | noticeSent
  /-- ARBITRATION_LOST (R154). -/
  | arbitrationLost
  /-- SEND_COLLISION (R155). -/
  | sendCollision
  /-- GUARD_CUT: a driver request has lasted 80 microseconds (R164). -/
  | guardCut
  /-- GUARD_RETURN: the drive request has been off for 2 ms (R165). -/
  | guardReturn
  /-- LINE_WINDOW_END: a 1 ms health window ends (R167). -/
  | lineWindowEnd
  /-- HARD_RESET: the strap pins and the levels of A, B and rail-good at the end of the reset (R181). -/
  | hardReset (straps : BitVec 6) (a b rail : Bool)
  /-- START_MARK: a start mark on the line (R151). -/
  | startMark
  deriving DecidableEq, Repr

end Sys2Proof
end

