-- ==== Sys2Proof/WellFormed.lean ====
section
/-! DEFINITION. Which commands the spec can mean: the two rows whose operands could name another row's
event. Every other command is well formed whatever its operands, since notices carry any bits. -/

namespace Sys2Proof

/-- The kind codes of the pattern node: PLACE, RESET, SPAN, CLOSE, ORDER, BACKING, QUERY, SETUP,
CLEAR (R161, R169). -/
def nodeKinds : List (BitVec 5) := [0x03, 0x04, 0x10, 0x11, 0x12, 0x13, 0x1A, 0x1B, 0x1C]

/-- The kind codes of stations: TAKE, PICK, PARK, CLAIM, REPORT, STATUS (R161, R169). -/
def stationKinds : List (BitVec 5) := [0x00, 0x01, 0x02, 0x08, 0x18, 0x19]

/-- A kind and sender that R161 counts as foreign. -/
def isForeign (kind sender : BitVec 5) : Bool :=
  if kind ∈ nodeKinds then sender != 31
  else if kind ∈ stationKinds then decide (16 ≤ sender.toNat)
  else true

namespace Instr

/-- A QUERY of an unknown page names no known page, and a foreign notice is one R161 ignores. -/
def wf : Instr → Bool
  | .queryUnknownPage _ page _ => decide (3 ≤ page.toNat)
  | .foreignNotice kind sender => isForeign kind sender
  | _ => true

end Instr
end Sys2Proof
end

