-- ==== Sys2Proof/Decode.lean ====
section
/-! DEFINITION. The command a word of the opcode table spells. The table gives bits to none of its
rows, so no word spells a command; the frames of the carriage line are read in Machine/Frames.lean. -/

namespace Sys2Proof

/-- No row of spec/opcode_table.json has bits. -/
def decodeTableWord (_nbits _w : Nat) : Option Instr := none

end Sys2Proof
end

