-- ==== Sys2Proof/Machine/State.lean ====
section
/-! DEFINITION. The state of the station, block by block, as plain data. A piece of state that two
rules name and that can never differ is stored once; the other is a view in Machine/Ops.lean (log 15). -/

namespace Sys2Proof.Machine

/-! ### Names -/

/-- A known direction of travel (00, Position and direction). -/
inductive Dir
  | right | left
  deriving DecidableEq, Repr

/-- What a head is told to do with a needle (00, Actions and heights). -/
inductive Action
  | miss | tuck | knit | xfer | recv
  deriving DecidableEq, Repr

/-- The four working heights of a head (R109). UNKNOWN is `none` of `Option Height`. -/
inductive Height
  | low | mid | high | top
  deriving DecidableEq, Repr

/-- The kind of course of an order (R41). -/
inductive CourseType
  | knit | transfer
  deriving DecidableEq, Repr

/-- How needles are decided (R41). -/
inductive Role
  | idle | pattern | cover | backing
  deriving DecidableEq, Repr

/-- Who picks the carrier up (R41). -/
inductive YarnSource
  | own | partner (station : StationNo)
  deriving DecidableEq, Repr

/-- The rounding of the setup record (R12, R13). -/
inductive Rounding
  | trunc | nearest
  deriving DecidableEq, Repr

/-- The unheard policy of the setup record (R72). -/
inductive UnheardPolicy
  | fill | trust
  deriving DecidableEq, Repr

/-- The damaged/late row policy of the setup record (R57). -/
inductive RowPolicy
  | hold | use
  deriving DecidableEq, Repr

/-! ### Position unit (01) -/

/-- The direction with its hysteresis marks (R4, R5). -/
inductive Tracker
  | unknown (low high : Int)
  | right (extreme : Int)
  | left (extreme : Int)
  deriving DecidableEq, Repr

/-- The three needle indices (R10). -/
structure Indices where
  d : Int
  s : Int
  p : Int
  deriving DecidableEq, Repr

/-- The position unit (R1 to R20). -/
structure Position where
  c : Int
  phaseA : Bool
  phaseB : Bool
  tracker : Tracker
  referenced : Bool
  idx : Option Indices
  racking : Int
  frontier : Option Int
  deriving DecidableEq, Repr

/-! ### Row store (02) -/

/-- A run of needles of one colour (R21). -/
structure Span where
  first : Nat
  last : Nat
  colour : Nat
  deriving DecidableEq, Repr

/-- The state of a held slot (R23). FREE is `none` of `Option Slot`. -/
inductive SlotState
  | filling | closed | damaged
  deriving DecidableEq, Repr

/-- A held row slot (R23, R24, R26). -/
structure Slot where
  state : SlotState
  row : Word16
  seq : Nat
  count : Nat
  spans : List Span
  deriving DecidableEq, Repr

/-- The row store (R21 to R40). -/
structure RowStore where
  slots : Vector (Option Slot) 4
  pinned : Option (Fin 4)
  deriving DecidableEq, Repr

/-! ### Course controller (03) -/

/-- An accepted order, its window clamped (R41, R44). The window is empty when `winLast < winFirst`. -/
structure Order where
  pass : Word16
  row : Word16
  courseType : CourseType
  direction : Dir
  role : Role
  selected : Action
  unselected : Action
  colours : Flags16
  listen : Flags16
  carrier : Option (Fin 16)
  source : YarnSource
  announce : Bool
  floatTie : Bool
  winFirst : Nat
  winLast : Nat
  racking : Int
  step : Nat
  deriving DecidableEq, Repr

/-- Whether the row of a prepared order has arrived (R47). -/
inductive RowStatus
  | waiting | primed
  deriving DecidableEq, Repr

/-- The STANDBY context (R47). EMPTY is `none` of `Option Standby`. -/
structure Standby where
  order : Order
  status : RowStatus
  deriving DecidableEq, Repr

/-- The ACTIVE context of the running course (R50), the direction of its travel (R16), and whether it
is the idle context of R51, which is no order. -/
structure Active where
  order : Order
  status : RowStatus
  travel : Dir
  starved : Bool
  deriving DecidableEq, Repr

/-- The row source of a course (R57). -/
inductive RowChoice
  | own | pinned | nothing
  deriving DecidableEq, Repr

/-- The course counters (R54, R83). -/
structure Tally where
  decided : Nat
  nones : Nat
  loops : Nat
  tucks : Nat
  tops : Nat
  failed : Nat
  untracked : Nat
  deriving DecidableEq, Repr

/-- Why an order was refused (R42), in the order of the codes of R189. -/
inductive RefusalReason
  | undefinedCode | queueFull | rackingRange | roleNotAllowed | actionNotAllowed
  | noCarrierPin | noClaimPage
  deriving DecidableEq, Repr

/-- The course controller (R41 to R64). The course flags stand in the bit order of R172. -/
structure CourseCtl where
  queue : List Order
  standby : Option Standby
  active : Option Active
  expected : Option Word16
  choice : Option RowChoice
  cleanRead : Bool
  table : List Action
  phase : Nat
  shadow : Option (List Action)
  flags : BitVec 9
  tally : Tally
  lastRefusal : Option RefusalReason
  deriving DecidableEq, Repr

/-! ### Decision unit (04) -/

/-- What became of a needle (R77, R82). -/
inductive NeedleOutcome
  | done | lost | fault | guarded | disabled | rail | ended
  deriving DecidableEq, Repr

/-- The result of a needle, as it is claimed and counted (R82, R93). -/
inductive NeedleResult
  | none | loop | tuck | top | failed
  deriving DecidableEq, Repr

/-- An entry of the outcome list; it is UNRESOLVED while `outcome` is absent (R77). -/
structure Entry where
  needle : Nat
  counting : Bool
  action : Action
  outcome : Option NeedleOutcome
  breakAfter : Bool
  deriving DecidableEq, Repr

/-- The decision unit (R65 to R88). -/
structure Decision where
  outcomes : List Entry
  float : Nat
  deriving DecidableEq, Repr

/-! ### Claim unit (05) -/

/-- What the station itself decided for a needle in a COVER course (R76). -/
inductive OwnMark
  | none | loop | other
  deriving DecidableEq, Repr

/-- One needle's entry of a claim page (R95). -/
structure PageEntry where
  heard : Flags16
  looped : Flags16
  own : OwnMark
  deriving DecidableEq, Repr

/-- A bound claim page (R95 to R98). FREE is `none` of `Option Page`. -/
structure Page where
  row : Word16
  entries : List PageEntry
  doubles : Nat
  lateDoubles : Nat
  listen : Flags16
  deriving DecidableEq, Repr

/-- The claim being gathered (R89). -/
structure OpenRun where
  first : Nat
  last : Nat
  count : Nat
  result : NeedleResult
  deriving DecidableEq, Repr

/-- The claim unit (R89 to R108). -/
structure ClaimUnit where
  page0 : Option Page
  page1 : Option Page
  run : Option OpenRun
  deriving DecidableEq, Repr

/-! ### Head driver (06) -/

/-- The fire in flight (R112). The deadline is in microseconds after the start (log 3). -/
structure Fire where
  target : Height
  needle : Option Nat
  deadline : Nat
  deriving DecidableEq, Repr

/-- The pending request (R116). -/
structure Request where
  needle : Nat
  target : Height
  travel : Dir
  deriving DecidableEq, Repr

/-- The head driver (R109 to R127). `waiting` is the pending request. -/
structure Head where
  height : Option Height
  code : Height
  fire : Option Fire
  waiting : Option Request
  faults : Nat
  disabled : Bool
  railGood : Bool
  railLevel : Bool
  railHeld : Nat
  railCause : Bool
  deriving DecidableEq, Repr

/-! ### Carrier unit (07) -/

/-- Where a carrier is, as far as the station knows (R128). -/
inductive Place
  | unknown
  | parked (needle : Int)
  | held (station : StationNo)
  deriving DecidableEq, Repr

/-- A reservation: the latest TAKE heard or made for a carrier (R128). -/
structure Reservation where
  pass : Word16
  station : StationNo
  deriving DecidableEq, Repr

/-- A record of the carrier table (R128). -/
structure CarrierRec where
  place : Place
  reserved : Option Reservation
  deriving DecidableEq, Repr

/-- The pin (R137) with its operation: the carrier, the pass of the course in which it was engaged and
the deadline, in microseconds after the operation's start (log 3). `ofCourse` says that the course
which began the engagement still runs (R145), `silent` that a course reset has already queued the
unknown PARK of the release (R146). -/
inductive Pin
  | released
  | engaging (carrier : Fin 16) (pass : Word16) (deadline : Nat) (ofCourse : Bool)
  | engaged (carrier : Fin 16) (pass : Word16)
  | releasing (carrier : Fin 16) (pass : Word16) (deadline : Nat) (silent : Bool)
  deriving DecidableEq, Repr

/-- How a TAKE stands (07, state table). -/
inductive TakeState
  | queued | made | denied
  deriving DecidableEq, Repr

/-- The own TAKE made for the order in STANDBY (R134). -/
structure Take where
  carrier : Fin 16
  pass : Word16
  state : TakeState
  deriving DecidableEq, Repr

/-- How a course stands with its carrier (07, state table). -/
inductive CarrierState
  | waiting | held | denied | missed | fault
  deriving DecidableEq, Repr

/-- The carrier handled in the present course (R136). A partner's course makes no take (R143). -/
structure CourseCarrier where
  carrier : Fin 16
  source : YarnSource
  pass : Word16
  travel : Dir
  winFirst : Nat
  winLast : Nat
  take : Option TakeState
  expected : Option Int
  state : CarrierState
  deriving DecidableEq, Repr

/-- The carrier unit (R128 to R148). -/
structure CarrierUnit where
  table : Vector CarrierRec 16
  pin : Pin
  standbyTake : Option Take
  course : Option CourseCarrier
  deriving DecidableEq, Repr

/-! ### Line interface (08) -/

/-- How a course ended (R59), in the order of the codes of R172. -/
inductive EndKind
  | complete | cut | idle
  deriving DecidableEq, Repr

/-- The fields of a REPORT (R61). -/
structure Report where
  pass : Word16
  row : Word16
  kind : EndKind
  flags : BitVec 9
  tally : Tally
  doubles : Nat
  lateDoubles : Nat
  freeSlots : Nat
  freeOrders : Nat
  deriving DecidableEq, Repr

/-- A notice of the station's own (R156). An unknown position is `none`; a STATUS carries bytes 2 to 31
of its body. -/
inductive Notice
  | take (pass : Word16) (carrier : Fin 16)
  | pick (pass : Word16) (carrier : Fin 16)
  | park (pass : Word16) (carrier : Fin 16) (position : Option Int)
  | claim (pass row : Word16) (first count : Nat) (result : NeedleResult)
  | report (body : Report)
  | status (page part : Nat) (bytes : List Byte)
  deriving DecidableEq, Repr

/-- Where the receiver stands in the traffic (R151). -/
inductive Receiver
  | waitIdle | idle | receiving | discarding
  deriving DecidableEq, Repr

/-- The line interface (R149 to R168). The transmitter is QUIET when `sending` is absent. -/
structure Line where
  list : List Notice
  sending : Option Notice
  receiver : Receiver
  idleTime : Nat
  guardCut : Bool
  driven : Nat
  off : Nat
  degraded : Bool
  windowErrors : Nat
  cleanWindows : Nat
  deriving DecidableEq, Repr

/-! ### Station control (09) -/

/-- An accepted setup record (R178). -/
structure SetupRec where
  width : Nat
  pitch : Nat
  kref : Int
  offset : Int
  phase : Int
  anticipation : Nat
  rounding : Rounding
  unheard : UnheardPolicy
  rowPolicy : RowPolicy
  fireDeadline : Nat
  faultLimit : Nat
  floatLimit : Nat
  runLimit : Nat
  tolerance : Nat
  errorThreshold : Nat
  pinOffset : Int
  drop : Nat
  unclean : Nat
  deriving DecidableEq, Repr

/-- The station state with the setup record it has taken (R176, R178). -/
inductive Mode
  | setup
  | ready (setup : SetupRec)
  | run (setup : SetupRec)
  deriving DecidableEq, Repr

/-- Station control (R175 to R192). Sticky flags and recorded causes stand in the bit order of R189;
in the history `true` is an unclean verdict, newest first. -/
structure Control where
  station : StationNo
  bedBack : Bool
  owner : Bool
  mode : Mode
  sticky : BitVec 14
  causes : BitVec 13
  latch : Bool
  firstBad : Option Nat
  history : Vector Bool 8
  deriving DecidableEq, Repr

/-! ### The station -/

/-- The station: its blocks, the forty-one status counters in the order of R190, and the commands that
wait, first in, first out. -/
structure State where
  pos : Position
  rows : RowStore
  course : CourseCtl
  dec : Decision
  claim : ClaimUnit
  head : Head
  carr : CarrierUnit
  line : Line
  ctl : Control
  counts : Vector Nat 41
  pending : List Instr
  deriving DecidableEq, Repr

/-- No event stops the station: no rule of the spec gives one that does, so there is no fault. -/
inductive Fault
  deriving DecidableEq, Repr

/-- The refusals. -/
inductive Refusal
  /-- Raised by an arm of `exec` for a command without a meaning; no arm is one. Safe: the run stops. -/
  | notModelled (mnemonic : String)
  deriving DecidableEq, Repr

/-- The station right after the hard reset that ends with these straps and levels: R20, R40, R64, R86,
R99, R126, R147, R158, R165, R167, R181, R192. -/
def State.afterReset (straps : BitVec 6) (a b rail : Bool) : State where
  pos := { c := 0, phaseA := a, phaseB := b, tracker := .unknown 0 0, referenced := false,
           idx := none, racking := 0, frontier := none }
  rows := { slots := Vector.replicate 4 none, pinned := none }
  course := { queue := [], standby := none, active := none, expected := none, choice := none,
              cleanRead := false, table := [.knit, .miss], phase := 0, shadow := none, flags := 0,
              tally := ⟨0, 0, 0, 0, 0, 0, 0⟩, lastRefusal := none }
  dec := { outcomes := [], float := 0 }
  claim := { page0 := none, page1 := none, run := none }
  head := { height := none, code := .low, fire := none, waiting := none, faults := 0,
            disabled := false, railGood := false, railLevel := rail, railHeld := 0,
            railCause := false }
  carr := { table := Vector.replicate 16 ⟨.unknown, none⟩, pin := .released, standbyTake := none,
            course := none }
  line := { list := [], sending := none, receiver := .waitIdle, idleTime := 0, guardCut := false,
            driven := 0, off := 0, degraded := false, windowErrors := 0, cleanWindows := 0 }
  ctl := { station := straps.extractLsb' 0 4, bedBack := straps.getLsbD 4,
           owner := straps.getLsbD 5, mode := .setup, sticky := 0, causes := 0, latch := false,
           firstBad := none, history := Vector.replicate 8 false }
  counts := Vector.replicate 41 0
  pending := []

/-- The station after its power-on reset. The levels at the pins are DESIGN CHOICE, unsafe (log 7):
straps all inactive (station 0, FRONT, no owner), A, B and rail-good inactive. -/
def State.reset : State := State.afterReset 0 false false false

end Sys2Proof.Machine
end

