-- ==== Sys2Proof/Machine/Ops.lean ====
section
/-! DEFINITION. The operations every block shares: replacing one block of the state, the views of it,
the status counters and the transmit list. -/

namespace Sys2Proof.Machine

/-! ### Replacing a block -/

/-- The state with another position unit. -/
def State.setPos (s : State) (x : Position) : State := { s with pos := x }

/-- The state with another row store. -/
def State.setRows (s : State) (x : RowStore) : State := { s with rows := x }

/-- The state with another course controller. -/
def State.setCourse (s : State) (x : CourseCtl) : State := { s with course := x }

/-- The state with another decision unit. -/
def State.setDec (s : State) (x : Decision) : State := { s with dec := x }

/-- The state with another claim unit. -/
def State.setClaim (s : State) (x : ClaimUnit) : State := { s with claim := x }

/-- The state with another head driver. -/
def State.setHead (s : State) (x : Head) : State := { s with head := x }

/-- The state with another carrier unit. -/
def State.setCarr (s : State) (x : CarrierUnit) : State := { s with carr := x }

/-- The state with another line interface. -/
def State.setLine (s : State) (x : Line) : State := { s with line := x }

/-- The state with another station control. -/
def State.setCtl (s : State) (x : Control) : State := { s with ctl := x }

/-- The state with another status counters. -/
def State.setCounts (s : State) (x : Vector Nat 41) : State := { s with counts := x }

/-- The state with another queue of commands. -/
def State.setPending (s : State) (x : List Instr) : State := { s with pending := x }

/-! ### Views -/

/-- The setup record, absent while cleared (R178). -/
def Mode.setup? : Mode → Option SetupRec
  | .setup => none
  | .ready r => some r
  | .run r => some r

/-- The setup record the station has taken. -/
def State.setup? (s : State) : Option SetupRec := s.ctl.mode.setup?

/-- A field of the setup record, or what stands for it while the record is cleared. -/
def State.param {α : Type} (s : State) (f : SetupRec → α) (cleared : α) : α :=
  match s.setup? with
  | some r => f r
  | none => cleared

/-- The working width W; 4,096 until the setup record is accepted (R128). -/
def State.width (s : State) : Nat := s.param (·.width) Config.widthMax

/-- The time a fire or a pin operation may take, in microseconds (R112, R137). -/
def State.fireTime (s : State) : Nat := s.param (·.fireDeadline * 10) 0

/-- A course is running (R49): the ACTIVE context is present. -/
def State.running (s : State) : Bool := s.course.active.isSome

/-- The known direction of travel (R4, R5). -/
def Tracker.dir : Tracker → Option Dir
  | .unknown _ _ => none
  | .right _ => some .right
  | .left _ => some .left

/-- The stop line is asserted while the latch is set (R185). -/
def State.stopLine (s : State) : Bool := s.ctl.latch

/-- The head drive line is asserted while a fire is in flight (R109). -/
def State.headDrive (s : State) : Bool := s.head.fire.isSome

/-- The pin drive line is asserted while ENGAGING or ENGAGED (R137). -/
def State.pinDrive (s : State) : Bool :=
  match s.carr.pin with
  | .engaging _ _ _ _ => true
  | .engaged _ _ => true
  | _ => false

/-- The transmitter asks to drive over the whole of its transmission (R164). -/
def State.driveRequest (s : State) : Bool := s.line.sending.isSome

/-- The carrier on the pin: the one engaged or being released (R137). -/
def Pin.carrierOn : Pin → Option (Fin 16)
  | .engaged c _ => some c
  | .releasing c _ _ _ => some c
  | _ => none

/-- An engagement of the present course is in flight (R139). -/
def Pin.engagingForCourse : Pin → Bool
  | .engaging _ _ _ own => own
  | _ => false

/-- An addressed notice is applied at its target and at 31, all stations (R162). -/
def State.addressed (s : State) (target : BitVec 5) : Bool :=
  target.toNat == s.ctl.station.toNat || target.toNat == Config.nodeNumber

/-- The station's own flag in a mask of stations. -/
def State.inMask (s : State) (mask : Flags16) : Bool := mask.getLsbD s.ctl.station.toNat

/-! ### Flags in a word -/

/-- The word with flag `i` set. -/
def setBit {n : Nat} (x : BitVec n) (i : Nat) : BitVec n := x ||| BitVec.twoPow n i

/-- The word with flag `i` cleared. -/
def clearBit {n : Nat} (x : BitVec n) (i : Nat) : BitVec n := x &&& ~~~ BitVec.twoPow n i

/-! ### Status counters -/

/-- The forty-one status counters, in the order of STATUS page 1 (R190). -/
inductive Counter
  | encoderErrors | spansIgnored | lateSpans | rowRefusals | rowEvictions
  | rowsDamaged | ordersRefused | needlesGuarded | needlesRefusedByHead | needlesRefusedForRail
  | needlesLost | needlesFaulted | needlesEnded | needlesUntracked | claimsFormed
  | claimsApplied | claimsOutOfRange | firesStarted | fireDeadlines | strayConfirms
  | railDrops | carrierConflicts | takesWithdrawn | pinDeadlines | strayPinConfirms
  | carrierNoticesIgnored | symbolErrors | checkErrors | lengthErrors | classMismatches
  | foreignNotices | sendCollisions | guardCuts | degradations | takeDrops
  | pickDrops | parkDrops | claimDrops | reportDrops | statusDrops
  | earlyNotices
  deriving DecidableEq, Repr

/-- Where a counter stands on STATUS page 1 (R190). -/
def Counter.idx : Counter → Fin 41
  | .encoderErrors => 0 | .spansIgnored => 1 | .lateSpans => 2 | .rowRefusals => 3
  | .rowEvictions => 4 | .rowsDamaged => 5 | .ordersRefused => 6 | .needlesGuarded => 7
  | .needlesRefusedByHead => 8 | .needlesRefusedForRail => 9 | .needlesLost => 10 | .needlesFaulted => 11
  | .needlesEnded => 12 | .needlesUntracked => 13 | .claimsFormed => 14 | .claimsApplied => 15
  | .claimsOutOfRange => 16 | .firesStarted => 17 | .fireDeadlines => 18 | .strayConfirms => 19
  | .railDrops => 20 | .carrierConflicts => 21 | .takesWithdrawn => 22 | .pinDeadlines => 23
  | .strayPinConfirms => 24 | .carrierNoticesIgnored => 25 | .symbolErrors => 26 | .checkErrors => 27
  | .lengthErrors => 28 | .classMismatches => 29 | .foreignNotices => 30 | .sendCollisions => 31
  | .guardCuts => 32 | .degradations => 33 | .takeDrops => 34 | .pickDrops => 35
  | .parkDrops => 36 | .claimDrops => 37 | .reportDrops => 38 | .statusDrops => 39
  | .earlyNotices => 40

/-- A count that goes up by `k` and stops at 65,535 (00, Times and counts). -/
def satAdd (n k : Nat) : Nat := min (n + k) Config.counterMax

/-- The value of a status counter. -/
def State.count (s : State) (k : Counter) : Nat := s.counts[k.idx]

/-- A status counter goes up by one. -/
def State.bump (s : State) (k : Counter) : State :=
  s.setCounts (s.counts.set k.idx (satAdd s.counts[k.idx] 1))

/-! ### The transmit list -/

/-- The class of a notice: the upper two bits of its kind code (R152, R169). -/
def Notice.cls : Notice → Nat
  | .take _ _ => 0
  | .pick _ _ => 0
  | .park _ _ _ => 0
  | .claim _ _ _ _ _ => 1
  | .report _ => 3
  | .status _ _ _ => 3

/-- The counter of notices of this kind that found the list full (R168). -/
def Notice.dropCounter : Notice → Counter
  | .take _ _ => .takeDrops
  | .pick _ _ => .pickDrops
  | .park _ _ _ => .parkDrops
  | .claim _ _ _ _ _ => .claimDrops
  | .report _ => .reportDrops
  | .status _ _ _ => .statusDrops

/-- A joining notice stands after every notice of its own and of lower classes (R156). -/
def joinList (n : Notice) : List Notice → List Notice
  | [] => [n]
  | m :: ms => if n.cls < m.cls then n :: m :: ms else m :: joinList n ms

/-- The transmit list has room (R156). -/
def State.hasRoom (s : State) : Bool := decide (s.line.list.length < Config.transmitMax)

/-- A notice is placed: it joins the list, or is dropped and counted by kind (R156). -/
def State.offer (s : State) (n : Notice) : State :=
  if s.hasRoom then s.setLine { s.line with list := joinList n s.line.list }
  else s.bump n.dropCounter

end Sys2Proof.Machine
end

