-- ==== Sys2Proof/Machine/Flags.lean ====
section
/-! DEFINITION. The flags: sticky flags, stop causes with the stop latch, and course flags. -/

namespace Sys2Proof.Machine

/-! ### Sticky flags -/

/-- The fourteen sticky flags, in the order of R183. -/
inductive StickyFlag
  | encoder | posLimit | slip | rowRefused | orderRefused
  | passSkew | backingRefused | fireFault | placeRefused | pinFault
  | addressClash | unsupported | lateSetup | setupRefused
  deriving DecidableEq, Repr

/-- Where a sticky flag stands in bytes 5 and 6 of STATUS page 0 (R189). -/
def StickyFlag.idx : StickyFlag → Nat
  | .encoder => 0 | .posLimit => 1 | .slip => 2 | .rowRefused => 3
  | .orderRefused => 4 | .passSkew => 5 | .backingRefused => 6 | .fireFault => 7
  | .placeRefused => 8 | .pinFault => 9 | .addressClash => 10 | .unsupported => 11
  | .lateSetup => 12 | .setupRefused => 13

/-- A sticky flag is set. -/
def State.isSticky (s : State) (f : StickyFlag) : Bool := s.ctl.sticky.getLsbD f.idx

/-- A sticky flag is set; set a second time it stays set (R183). -/
def State.setSticky (s : State) (f : StickyFlag) : State :=
  s.setCtl { s.ctl with sticky := setBit s.ctl.sticky f.idx }

/-! ### Stop causes and the stop latch -/

/-- The thirteen stop causes, in the order of R184. -/
inductive StopCause
  | slip | starve | direction | rowLate | rowDamaged
  | carrierDenied | carrierMissed | carrierFault | addressClash | unclean
  | headDisabled | railLow | guardCut
  deriving DecidableEq, Repr

/-- Where a stop cause stands in bytes 7 and 8 of STATUS page 0 (R189). -/
def StopCause.idx : StopCause → Nat
  | .slip => 0 | .starve => 1 | .direction => 2 | .rowLate => 3
  | .rowDamaged => 4 | .carrierDenied => 5 | .carrierMissed => 6 | .carrierFault => 7
  | .addressClash => 8 | .unclean => 9 | .headDisabled => 10 | .railLow => 11
  | .guardCut => 12

/-- The mark of a recorded stop cause. -/
def State.isRecorded (s : State) (c : StopCause) : Bool := s.ctl.causes.getLsbD c.idx

/-- A stop cause sets the stop latch and its mark (R184, R185). -/
def State.raise (s : State) (c : StopCause) : State :=
  s.setCtl { s.ctl with causes := setBit s.ctl.causes c.idx, latch := true }

/-- The level causes that hold: HEAD DISABLED, RAIL LOW, GUARD CUT (R184), as a recorded-cause word. -/
def State.levelCauses (s : State) : BitVec 13 :=
  (if s.head.disabled then BitVec.twoPow 13 StopCause.headDisabled.idx else 0) |||
  (if s.head.railCause then BitVec.twoPow 13 StopCause.railLow.idx else 0) |||
  (if s.line.guardCut then BitVec.twoPow 13 StopCause.guardCut.idx else 0)

/-- Some level cause holds (R186). -/
def State.levelHolds (s : State) : Bool := s.head.disabled || s.head.railCause || s.line.guardCut

/-! ### Course flags -/

/-- The nine course flags, in the bit order of R172. -/
inductive CourseFlag
  | starve | direction | rowLate | rowDamaged | carrierDenied
  | carrierMissed | carrierFault | claimsDropped | lineDegraded
  deriving DecidableEq, Repr

/-- The bit of a course flag in REPORT bytes 4 and 5 (R172). -/
def CourseFlag.idx : CourseFlag → Nat
  | .starve => 0 | .direction => 1 | .rowLate => 2 | .rowDamaged => 3
  | .carrierDenied => 4 | .carrierMissed => 5 | .carrierFault => 6 | .claimsDropped => 7
  | .lineDegraded => 8

/-- The stop cause a course flag raises (R54). -/
def CourseFlag.cause : CourseFlag → Option StopCause
  | .starve => some .starve
  | .direction => some .direction
  | .rowLate => some .rowLate
  | .rowDamaged => some .rowDamaged
  | .carrierDenied => some .carrierDenied
  | .carrierMissed => some .carrierMissed
  | .carrierFault => some .carrierFault
  | .claimsDropped => none
  | .lineDegraded => none

/-- A course flag is set. -/
def State.isCourseFlag (s : State) (f : CourseFlag) : Bool := s.course.flags.getLsbD f.idx

/-- A stop cause, if the course flag is one. -/
def State.raiseFor (s : State) (f : CourseFlag) : State :=
  match f.cause with
  | some c => s.raise c
  | none => s

/-- A course flag is set, and its stop cause raised; set a second time in a course it changes nothing
(R54). -/
def State.setCourseFlag (s : State) (f : CourseFlag) : State :=
  if s.isCourseFlag f then s
  else (s.setCourse { s.course with flags := setBit s.course.flags f.idx }).raiseFor f

/-- The course flags and a verdict: REPORT bits 0 to 6 and 8 make a course unclean (R62). -/
def uncleanFlags : BitVec 9 := 0x17F

end Sys2Proof.Machine
end

