-- ==== Sys2Proof/Machine/Operands.lean ====
section
/-! DEFINITION. What the raw fields of a notice body mean (R171, R173, R174, R178). -/

namespace Sys2Proof

open Machine

/-! ### ORDER -/

/-- Bits 7-6 of byte 4 of an ORDER (R171). -/
def decodeCourseType (x : BitVec 2) : Option CourseType :=
  if x = 0 then some .knit else if x = 1 then some .transfer else none

/-- Bits 5-4 of byte 4 of an ORDER (R171). -/
def decodeDirection (x : BitVec 2) : Option Dir :=
  if x = 0 then some .right else if x = 1 then some .left else none

/-- Bits 3-1 of byte 4 of an ORDER (R171). -/
def decodeRole (x : BitVec 3) : Option Role :=
  if x = 0 then some .idle else if x = 1 then some .pattern
  else if x = 2 then some .cover else if x = 3 then some .backing else none

/-- An action nibble of byte 5 of an ORDER (R171). -/
def decodeAction (x : BitVec 4) : Option Action :=
  if x = 0 then some .miss else if x = 1 then some .tuck else if x = 2 then some .knit
  else if x = 3 then some .xfer else if x = 4 then some .recv else none

/-- Byte 11 of an ORDER: 0x80 is SELF, 0x00 to 0x0F a partner (R171). -/
def decodeSource (x : Byte) : Option YarnSource :=
  if x = 0x80 then some .own
  else if x.toNat < 16 then some (.partner (x.extractLsb' 0 4))
  else none

/-- Byte 10 of an ORDER: bit 7 means none, otherwise the low four bits give the carrier (R171). -/
def decodeOrderCarrier (x : Byte) : Option (Fin 16) :=
  if x.getLsbD 7 then none else some (Fin.ofNat 16 x.toNat)

/-- The order of a body, its window as sent; none when a coded field names no value (R42, R171). -/
def OrderBody.decode (b : OrderBody) : Option Order :=
  match decodeCourseType b.courseType, decodeDirection b.direction, decodeRole b.role,
      decodeAction b.selected, decodeAction b.unselected, decodeSource b.source with
  | some ty, some dir, some role, some sel, some unsel, some src =>
    some { pass := b.pass, row := b.row, courseType := ty, direction := dir, role := role,
           selected := sel, unselected := unsel, colours := b.colours, listen := b.listen,
           carrier := decodeOrderCarrier b.carrier, source := src, announce := b.announce,
           floatTie := b.floatTie, winFirst := b.winFirst.toNat, winLast := b.winLast.toNat,
           racking := b.racking.toInt, step := b.step.toNat }
  | _, _, _, _, _, _ => none

/-! ### BACKING -/

/-- A two-bit entry of a backing table; the code that names no action is taken as MISS (R55). -/
def decodeBackingEntry (x : BitVec 2) : Action :=
  if x = 1 then .tuck else if x = 2 then .knit else .miss

/-- Entry `k` of the body, entry 0 in the highest two bits (R174). -/
def BackingBody.entry (b : BackingBody) (k : Nat) : Action :=
  decodeBackingEntry (b.entries.extractLsb' (62 - 2 * k) 2)

/-- The first `length` entries (R55). -/
def BackingBody.table (b : BackingBody) : List Action := (List.range b.length.toNat).map b.entry

/-- A length of 1 to 32 is taken (R55). -/
def BackingBody.lengthOk (b : BackingBody) : Bool :=
  decide (1 ≤ b.length.toNat) && decide (b.length.toNat ≤ 32)

/-! ### Carriers -/

/-- A carrier byte; above 15 it names no carrier (R128). -/
def decodeCarrier (x : Byte) : Option (Fin 16) :=
  if h : x.toNat < 16 then some ⟨x.toNat, h⟩ else none

/-- A position: -32,768 means unknown (R128, R174). -/
def decodePosition (x : Word16) : Option Int := if x = 0x8000 then none else some x.toInt

/-! ### SETUP -/

/-- The checks of R178 in the order of the field numbers; true is in range. O_pin is checked at a
carrier owner only. -/
def SetupBody.checks (b : SetupBody) (owner : Bool) : List (Nat × Bool) :=
  [(1, decide (16 ≤ b.width.toNat) && decide (b.width.toNat ≤ 4096)),
   (2, decide (2048 ≤ b.pitch.toNat)),
   (3, decide (-4194304 ≤ b.kref.toInt) && decide (b.kref.toInt ≤ 4194303)),
   (4, decide (-1048576 ≤ b.offset.toInt) && decide (b.offset.toInt ≤ 1048575)),
   (6, decide (b.anticipation.toNat ≤ 32767)),
   (10, decide (2 ≤ b.fireDeadline.toNat)),
   (11, decide (1 ≤ b.faultLimit.toNat) && decide (b.faultLimit.toNat ≤ 15)),
   (12, b.floatLimit.toNat == 0 ||
        (decide (2 ≤ b.floatLimit.toNat) && decide (b.floatLimit.toNat ≤ 63))),
   (13, decide (1 ≤ b.runLimit.toNat)),
   (15, decide (1 ≤ b.errorThreshold.toNat)),
   (16, !owner ||
        (decide (-1048576 ≤ b.pinOffset.toInt) && decide (b.pinOffset.toInt ≤ 1048575))),
   (18, decide (b.unclean.toNat ≤ 7))]

/-- The number of the first field out of range (R179). -/
def SetupBody.firstBad (b : SetupBody) (owner : Bool) : Option Nat :=
  ((b.checks owner).find? fun c => !c.2).map (·.1)

/-- The record of a body whose every field passes; O_pin is 0 at a station that is no owner (R10,
R178). -/
def SetupBody.record (b : SetupBody) (owner : Bool) : SetupRec where
  width := b.width.toNat
  pitch := b.pitch.toNat
  kref := b.kref.toInt
  offset := b.offset.toInt
  phase := b.phase.toInt
  anticipation := b.anticipation.toNat
  rounding := if b.nearest then .nearest else .trunc
  unheard := if b.trust then .trust else .fill
  rowPolicy := if b.useRow then .use else .hold
  fireDeadline := b.fireDeadline.toNat
  faultLimit := b.faultLimit.toNat
  floatLimit := b.floatLimit.toNat
  runLimit := b.runLimit.toNat
  tolerance := b.tolerance.toNat
  errorThreshold := b.errorThreshold.toNat
  pinOffset := if owner then b.pinOffset.toInt else 0
  drop := b.drop.toNat
  unclean := b.unclean.toNat

end Sys2Proof
end

