-- ==== Sys2Proof/Machine/Carriers.lean ====
section
/-! DEFINITION. The carrier unit: the carrier table (7.1), the own TAKE (7.2), the pin (7.3, 7.4),
partner yarn (7.5), and its part of course start, course end and course reset. -/

namespace Sys2Proof.Machine

/-! ### The table -/

/-- A record of the table. -/
def State.carrier (s : State) (c : Fin 16) : CarrierRec := s.carr.table[c]

/-- A record replaced. -/
def State.setCarrier (s : State) (c : Fin 16) (r : CarrierRec) : State :=
  s.setCarr { s.carr with table := s.carr.table.set c r }

/-- A park needle clamped to -64 … W+63 (R128). -/
def clampPark (w : Nat) (x : Int) : Int :=
  max (-Config.parkBeyond) (min x ((w : Int) + Config.parkBeyond - 1))

/-- The place a position gives: PARKED at the clamped needle, or UNKNOWN (R128). -/
def State.placeAt (s : State) (x : Option Int) : Place :=
  match x with
  | some n => .parked (clampPark s.width n)
  | none => .unknown

/-- The reservation after the pass it may be for is over (R132, R133). -/
def clearedFor (pass : Word16) (r : Option Reservation) : Option Reservation :=
  match r with
  | some x => if x.pass = pass then none else some x
  | none => none

/-- The station itself holds the carrier on its pin (R129). -/
def State.onPin (s : State) (c : Fin 16) : Bool := s.carr.pin.carrierOn == some c

/-- Every record changed by `f`. -/
def mapTable (f : CarrierRec → CarrierRec) (t : Vector CarrierRec 16) : Vector CarrierRec 16 :=
  ⟨⟨t.toList.map f⟩, by simp⟩

/-- At the acceptance of SETUP a record PARKED above W+63 is set to W+63 (R128). -/
def clampRecord (w : Nat) (r : CarrierRec) : CarrierRec :=
  match r.place with
  | .parked x => { r with place := .parked (min x ((w : Int) + Config.parkBeyond - 1)) }
  | _ => r

/-! ### The course carrier -/

/-- The course carrier changed. -/
def State.setCourseCarrier (s : State) (cc : CourseCarrier) : State :=
  s.setCarr { s.carr with course := some cc }

/-- The pin changed. -/
def State.setPin (s : State) (p : Pin) : State := s.setCarr { s.carr with pin := p }

/-- The pin index `p` has not reached needle `x` (R138). -/
def shortOf (travel : Dir) (p x : Int) : Bool :=
  match travel with
  | .right => decide (p < x)
  | .left => decide (x < p)

/-- The pin index `p` has passed needle `x` (R138). -/
def passedBy (travel : Dir) (p x : Int) : Bool :=
  match travel with
  | .right => decide (x < p)
  | .left => decide (p < x)

/-- The course carrier is MISSED, with the course flag CARRIER MISSED, a stop cause (R138, R139); where it
is judged at the end of an operation of an earlier course, without the flag (`flag` off; R145, log 33). -/
def State.miss (s : State) (cc : CourseCarrier) (flag : Bool := true) : State :=
  let t := s.setCourseCarrier { cc with state := .missed }
  if flag then t.setCourseFlag .carrierMissed else t

/-- The course carrier is DENIED, a stop cause (R138, R139). -/
def State.deny (s : State) (cc : CourseCarrier) : State :=
  (s.setCourseCarrier { cc with state := .denied }).setCourseFlag .carrierDenied

/-- The course carrier of a SELF order that waits, which R139 judges. -/
def State.judged (s : State) : Option CourseCarrier :=
  match s.carr.course with
  | some cc => if cc.source = .own ∧ cc.state = .waiting then some cc else none
  | none => none

/-- The carrier is reached: MISSED when its place is UNKNOWN or HELD by another station or the TAKE still
waits; held back while the pin is busy; else an engagement starts (R137, R139). DESIGN CHOICE: of the rows
that hold at once, MISSED comes before the wait for a busy pin (log 31). -/
def State.reached (s : State) (cc : CourseCarrier) (flag : Bool := true) : State :=
  match (s.carrier cc.carrier).place with
  | .unknown => s.miss cc flag
  | .held q => if q = s.ctl.station ∧ cc.take ≠ some .queued then s else s.miss cc flag
  | .parked _ =>
    if cc.take = some .queued then s.miss cc flag
    else if cc.take = some .made ∧ s.carr.pin = .released ∧ s.ctl.owner = true then
      s.setPin (.engaging cc.carrier cc.pass s.fireTime true)
    else s

/-- A change of the pin index from `old` to `new` is judged against the expected park needle (R139). -/
def State.judgeMove (s : State) (old new : Int) : State :=
  match s.judged with
  | none => s
  | some cc =>
    match cc.expected with
    | none => s
    | some x =>
      if shortOf cc.travel old x && new == x then s.reached cc
      else if shortOf cc.travel old x && passedBy cc.travel new x then s.miss cc
      else s

/-- A waiting course carrier judged where the pin index stands: reached at `x`, MISSED beyond it (R139). -/
def State.judgeAt (s : State) (cc : CourseCarrier) (x : Int) (flag : Bool := true) : State :=
  match s.pos.idx with
  | none => s
  | some i =>
    if i.p = x then s.reached cc flag
    else if passedBy cc.travel i.p x then s.miss cc flag
    else s

/-- The expected park needle becomes `x` whenever the record of a waiting SELF carrier becomes PARKED at
`x` (R139). -/
def State.expect (s : State) (c : Fin 16) (x : Int) : State :=
  match s.carr.course with
  | some cc =>
    if cc.source = .own ∧ cc.state = .waiting ∧ cc.carrier = c
    then s.setCourseCarrier { cc with expected := some x } else s
  | none => s

/-- The place of carrier `c` has changed to `place`: a waiting course carrier is judged anew (R139,
log 10). DESIGN CHOICE: a reached carrier, held back by a busy pin or with its own engagement in flight, that
becomes UNKNOWN or HELD is not judged at that change: it waits for the end of the operation (log 32). -/
def State.judgePlace (s : State) (c : Fin 16) (place : Place) (flag : Bool := true) : State :=
  match place with
  | .parked x =>
    let t := s.expect c x
    match t.judged with
    | some cc => if cc.carrier = c then t.judgeAt cc x flag else t
    | none => t
  | .unknown =>
    match s.judged with
    | some cc => if cc.carrier = c ∧ cc.expected = none then s.miss cc flag else s
    | none => s
  | .held _ => s

/-- A record gets a place and a reservation; a changed place is judged (R128, R139, log 24), at the end of
an operation of an earlier course without the course flag (R145). -/
def State.record (s : State) (c : Fin 16) (place : Place) (res : Option Reservation)
    (flag : Bool := true) : State :=
  let t := s.setCarrier c { place := place, reserved := res }
  if (s.carrier c).place = place then t else t.judgePlace c place flag

/-- The pin has become RELEASED: a waiting course carrier held back by a busy pin is judged again (R139,
R142). The operation belonged to an earlier course, so a MISSED it finds sets no course flag (R145). -/
def State.judgeFree (s : State) : State :=
  match s.judged with
  | some cc =>
    match cc.expected with
    | some x => s.judgeAt cc x false
    | none => s
  | none => s

/-! ### Drop -/

/-- The drop point of a course is reached (R141). -/
def CourseCarrier.dropReached (cc : CourseCarrier) (drop : Nat) (p : Int) : Bool :=
  match cc.travel with
  | .right => decide ((cc.winLast : Int) + drop ≤ p)
  | .left => decide (p ≤ (cc.winFirst : Int) - drop)

/-- A release of the engaged carrier starts (R141). -/
def State.startRelease (s : State) : State :=
  match s.carr.pin with
  | .engaged c pass => s.setPin (.releasing c pass s.fireTime false)
  | _ => s

/-- The drop point is judged while the pin is ENGAGED and the course carrier HELD (R141). -/
def State.judgeDrop (s : State) : State :=
  match s.carr.course, s.pos.idx with
  | some cc, some i =>
    if cc.source = .own ∧ cc.state = .held ∧ cc.dropReached (s.param (·.drop) 0) i.p = true
    then s.startRelease else s
  | _, _ => s

/-- A change of the pin index is reported to the carrier unit (R10, R139, R141). -/
def State.pinMoved (s : State) (old new : Int) : State := (s.judgeMove old new).judgeDrop

/-! ### Pin events -/

/-- The drop needle: the pin index when the release ends, clamped (R142). -/
def State.dropNeedle (s : State) : Int :=
  clampPark s.width (match s.pos.idx with | some i => i.p | none => 0)

/-- An engagement of the running course is confirmed: its carrier is HELD and the drop point is judged
(R140, R141). DESIGN CHOICE: a carrier MISSED while it was engaged stays MISSED (R139, log 11). -/
def State.confirmHeld (s : State) : State :=
  match s.carr.course with
  | some cc =>
    if cc.state = .missed then s else (s.setCourseCarrier { cc with state := .held }).judgeDrop
  | none => s

/-- PIN_CONFIRM: an engagement or a release ends on its confirm, or the confirm is stray (R140, R142,
R145, R146). -/
def execPinConfirm (s : State) : Host.Outcome State Fault Refusal :=
  match s.carr.pin with
  | .released => .next (s.bump .strayPinConfirms)
  | .engaged _ _ => .next (s.bump .strayPinConfirms)
  | .engaging c pass _ ofCourse =>
    let t := ((s.setPin (.engaged c pass)).record c (.held s.ctl.station)
      (s.carrier c).reserved).offer (.pick pass c)
    .next (if ofCourse then t.confirmHeld else t.startRelease)
  | .releasing c pass _ silent =>
    let t := s.setPin .released
    if silent then .next t.judgeFree
    else
      let n := s.dropNeedle
      .next ((t.record c (.parked n) (clearedFor pass (s.carrier c).reserved) false).judgeFree.offer
        (.park pass c (some n)))

/-- The pin after an operation that reached its deadline: RELEASED, with PIN FAULT and the counter (R140,
R142). -/
def State.pinFault (s : State) : State :=
  ((s.setPin .released).setSticky .pinFault).bump .pinDeadlines

/-- The record after an operation that reached its deadline: UNKNOWN, without a reservation for the pass;
and an unknown PARK is queued (R133, R140, R142). A waiting carrier of the new course is judged, without a
course flag (R145). -/
def State.loseCarrier (s : State) (c : Fin 16) (pass : Word16) : State :=
  ((s.record c .unknown (clearedFor pass (s.carrier c).reserved) false).judgeFree).offer
    (.park pass c none)

/-- The course carrier of an engagement that reached its deadline is at FAULT, a stop cause (R140). -/
def State.faultCarrier (s : State) : State :=
  match s.carr.course with
  | some cc => (s.setCourseCarrier { cc with state := .fault }).setCourseFlag .carrierFault
  | none => s

/-- ENGAGEMENT_DEADLINE: with no engagement in flight it has no effect (R140, R145). -/
def execEngagementDeadline (s : State) : Host.Outcome State Fault Refusal :=
  match s.carr.pin with
  | .engaging c pass _ ofCourse =>
    let t := if ofCourse then s.faultCarrier else s
    .next (t.pinFault.loseCarrier c pass)
  | _ => .next s

/-- RELEASE_DEADLINE: with no release in flight it has no effect (R142, R146). -/
def execReleaseDeadline (s : State) : Host.Outcome State Fault Refusal :=
  match s.carr.pin with
  | .releasing c pass _ silent =>
    if silent then .next s.pinFault.judgeFree else .next (s.pinFault.loseCarrier c pass)
  | _ => .next s

/-! ### Takes -/

/-- A take for a carrier and a pass changed by `f`, the standby take and the course's alike (R135). -/
def State.changeTakes (s : State) (c : Fin 16) (pass : Word16) (f : TakeState → TakeState) : State :=
  s.setCarr { s.carr with
    standbyTake := s.carr.standbyTake.map fun t =>
      if t.carrier = c ∧ t.pass = pass then { t with state := f t.state } else t
    course := s.carr.course.map fun cc =>
      if cc.carrier = c ∧ cc.pass = pass then { cc with take := cc.take.map f } else cc }

/-- A waiting course whose take has become DENIED is DENIED, unless its engagement is in flight (R139). -/
def State.judgeTake (s : State) : State :=
  match s.judged with
  | some cc =>
    if cc.take = some .denied ∧ s.carr.pin.engagingForCourse = false then s.deny cc else s
  | none => s

/-- An own TAKE was withdrawn or lost: each take for its carrier and pass becomes DENIED (R135). -/
def State.loseTake (s : State) (c : Fin 16) (pass : Word16) : State :=
  (s.changeTakes c pass fun _ => .denied).judgeTake

/-- An own TAKE was sent: the reservation is the station's own, and each queued take for its carrier and
pass is MADE (R133, R135, log 12). -/
def State.takeSent (s : State) (c : Fin 16) (pass : Word16) : State :=
  (s.setCarrier c { s.carrier c with reserved := some ⟨pass, s.ctl.station⟩ }).changeTakes c pass
    fun t => if t = .denied then .denied else .made

/-- An own TAKE for the carrier and pass waits in the transmit list and is not being sent (R135, R157). -/
def State.takeWaits (s : State) (c : Fin 16) (pass : Word16) : Bool :=
  s.line.list.any (fun n => n == .take pass c) && s.line.sending != some (.take pass c)

/-- The standby take of an order with a SELF carrier that enters STANDBY (R134). -/
def State.makeStandbyTake (s : State) (c : Fin 16) (pass : Word16) : State :=
  let put (t : State) (x : TakeState) : State :=
    t.setCarr { t.carr with standbyTake := some { carrier := c, pass := pass, state := x } }
  if (s.carrier c).reserved = some ⟨pass, s.ctl.station⟩ then put s .made
  else if s.line.list.any (fun n => n == .take pass c) then put s .queued
  else if (s.carrier c).reserved.any (fun r => r.pass == pass) then put s .denied
  else if s.hasRoom then put (s.offer (.take pass c)) .queued
  else put (s.offer (.take pass c)) .denied

/-- An order enters STANDBY: the standby take is made for a SELF carrier and is none otherwise (R134). -/
def State.standbyTakeFor (s : State) (o : Order) : State :=
  match o.carrier, o.source with
  | some c, .own => s.makeStandbyTake c o.pass
  | _, _ => s.setCarr { s.carr with standbyTake := none }

/-! ### Carrier notices -/

/-- A notice that names a carrier above 15 is ignored and counted (R128). -/
def State.withCarrier (s : State) (x : Byte) (f : Fin 16 → State) : State :=
  match decodeCarrier x with
  | some c => f c
  | none => s.bump .carrierNoticesIgnored

/-- A PLACE for a carrier (R129). -/
def State.takePlace (s : State) (c : Fin 16) (position : Word16) : State :=
  if s.onPin c then s.setSticky .placeRefused
  else s.record c (s.placeAt (decodePosition position)) none

/-- A TAKE from another station judged against the reservation (R130). -/
def State.reserve (s : State) (sender : StationNo) (pass : Word16) (c : Fin 16) : State :=
  let set := s.setCarrier c { s.carrier c with reserved := some ⟨pass, sender⟩ }
  match (s.carrier c).reserved with
  | none => set
  | some r =>
    if r.pass = pass then
      if r.station = sender then s else s.bump .carrierConflicts
    else set

/-- A TAKE from another station: an own TAKE that waits for the same carrier and pass is withdrawn first
(R130, R135). -/
def State.takeTake (s : State) (sender : StationNo) (pass : Word16) (c : Fin 16) : State :=
  if s.takeWaits c pass then
    let t := s.setLine { s.line with list := s.line.list.filter fun n => n != .take pass c }
    ((t.bump .takesWithdrawn).loseTake c pass).reserve sender pass c
  else s.reserve sender pass c

/-- A waiting partner course is HELD by its partner's PICK for its carrier and pass (R143). -/
def State.partnerPick (s : State) (sender : StationNo) (pass : Word16) (c : Fin 16) : State :=
  match s.carr.course with
  | some cc =>
    if cc.source = .partner sender ∧ cc.state = .waiting ∧ cc.carrier = c ∧ cc.pass = pass
    then s.setCourseCarrier { cc with state := .held } else s
  | none => s

/-- A PICK from another station (R131, R143). -/
def State.takePick (s : State) (sender : StationNo) (pass : Word16) (c : Fin 16) : State :=
  let t := if s.onPin c then s.bump .carrierConflicts
    else s.record c (.held sender) (s.carrier c).reserved
  t.partnerPick sender pass c

/-- A PARK from another station (R132). -/
def State.takePark (s : State) (pass : Word16) (c : Fin 16) (position : Word16) : State :=
  if s.onPin c then s.bump .carrierConflicts
  else s.record c (s.placeAt (decodePosition position)) (clearedFor pass (s.carrier c).reserved)

/-! ### Course start, course end, course reset -/

/-- The course carrier of a partner order (R143). -/
def State.formPartner (s : State) (a : Active) (c : Fin 16) (q : StationNo) : State :=
  let held := (s.carrier c).place = .held q ∧ (s.carrier c).reserved = some ⟨a.order.pass, q⟩
  s.setCarr { s.carr with
    standbyTake := none
    course := some
      { carrier := c, source := .partner q, pass := a.order.pass, travel := a.travel,
        winFirst := a.order.winFirst, winLast := a.order.winLast, take := none,
        expected := none, state := if held then .held else .waiting } }

/-- The course carrier of a SELF order is judged at the course start (R138). -/
def State.judgeStart (s : State) (cc : CourseCarrier) : State :=
  if cc.take = some .denied then s.deny cc
  else match (s.carrier cc.carrier).place with
    | .unknown => s.miss cc
    | .parked x =>
      let dd := { cc with expected := some x }
      let t := s.setCourseCarrier dd
      match s.pos.idx with
      | none => t
      | some i =>
        if passedBy cc.travel i.p x then t.miss dd
        else if i.p = x then t.reached dd
        else t
    | .held _ => s.setCourseCarrier cc

/-- The course carrier of a SELF order takes over the standby take (R136, R138). -/
def State.formOwn (s : State) (a : Active) (c : Fin 16) : State :=
  let take := match s.carr.standbyTake with
    | some t => t.state
    | none => .denied
  (s.setCarr { s.carr with standbyTake := none }).judgeStart
    { carrier := c, source := .own, pass := a.order.pass, travel := a.travel,
      winFirst := a.order.winFirst, winLast := a.order.winLast, take := some take,
      expected := none, state := .waiting }

/-- Step 8 of a course start in the carrier unit (R136). -/
def State.formCarrier (s : State) (a : Active) : State :=
  match a.order.carrier, a.order.source with
  | none, _ => s.setCarr { s.carr with standbyTake := none, course := none }
  | some c, .partner q => s.formPartner a c q
  | some c, .own => s.formOwn a c

/-- Step 3 of a course end in the carrier unit (R145). -/
def State.settleCarrier (s : State) : State :=
  let t : State := match s.carr.pin with
    | .engaging c pass dl _ => s.setPin (.engaging c pass dl false)
    | _ => s.startRelease
  let u : State := match t.carr.course with
    | some cc =>
      if cc.source = .own ∧ cc.state = .waiting then t.setCourseFlag .carrierMissed else t
    | none => t
  u.setCarr { u.carr with course := none }

/-- The pin of a course reset: a carrier on it or being engaged is released, silently at its end, and an
unknown PARK is queued (R146). -/
def State.resetPin (s : State) : State :=
  match s.carr.pin with
  | .released => s
  | .engaging c pass _ _ =>
    (s.setPin (.releasing c pass s.fireTime true)).offer (.park pass c none)
  | .engaged c pass => (s.setPin (.releasing c pass s.fireTime true)).offer (.park pass c none)
  | .releasing c pass dl _ =>
    (s.setPin (.releasing c pass dl true)).offer (.park pass c none)

/-- The carrier unit's part of a course reset (R146). -/
def State.resetCarriers (s : State) : State :=
  (s.setCarr { s.carr with
    table := Vector.replicate 16 ⟨.unknown, none⟩, standbyTake := none, course := none }).resetPin

/-- The carrier is held for the course (R144). -/
def State.carrierHeld (s : State) : Bool :=
  match s.carr.course with
  | some cc => cc.state == .held
  | none => false

end Sys2Proof.Machine
end

