-- ==== Sys2Proof/Machine/Claims.lean ====
section
/-! DEFINITION. The claim unit: the open run and outgoing claims (5.1), the claim pages (5.3), taking a
claim (5.4). -/

namespace Sys2Proof.Machine

/-! ### The open run -/

/-- A closed run is formed into a CLAIM of the running course and offered; dropped, it sets CLAIMS
DROPPED (R93, R94). -/
def State.formClaim (s : State) (r : OpenRun) : State :=
  match s.course.active with
  | none => s
  | some a =>
    let n := Notice.claim a.order.pass a.order.row (min r.first r.last) r.count r.result
    let t := s.bump .claimsFormed
    if t.hasRoom then t.offer n else (t.offer n).setCourseFlag .claimsDropped

/-- The open run closes and goes to forming; with no run nothing closes (R90, R92). -/
def State.closeRun (s : State) : State :=
  match s.claim.run with
  | none => s
  | some r => (s.setClaim { s.claim with run := none }).formClaim r

/-- The far edge of a window in travel order (R91). -/
def Active.farEdge (a : Active) : Nat :=
  match a.travel with
  | .right => a.order.winLast
  | .left => a.order.winFirst

/-- A run with the result of needle `n`: it joins a run of its own result, or opens one (R89). -/
def extendRun (run : Option OpenRun) (n : Nat) (x : NeedleResult) : OpenRun :=
  match run with
  | some r =>
    if r.result = x then { r with last := n, count := r.count + 1 }
    else { first := n, last := n, count := 1, result := x }
  | none => { first := n, last := n, count := 1, result := x }

/-- A counting result is handed to the open run: a differing run closes first, and the run closes at the
run limit and at the far edge of the window (R89, R90, R91). -/
def State.handRun (s : State) (a : Active) (n : Nat) (x : NeedleResult) : State :=
  let t := match s.claim.run with
    | some r => if r.result = x then s else s.closeRun
    | none => s
  let r := extendRun t.claim.run n x
  let u := t.setClaim { t.claim with run := some r }
  if u.param (·.runLimit) 1 ≤ r.count ∨ n = a.farEdge then u.closeRun else u

/-! ### Claim pages -/

/-- The page bound to a row (R95: at most one is). -/
def ClaimUnit.pageOf (u : ClaimUnit) (row : Word16) : Option Page :=
  match u.page0 with
  | some p => if p.row = row then some p else
    match u.page1 with
    | some q => if q.row = row then some q else none
    | none => none
  | none =>
    match u.page1 with
    | some q => if q.row = row then some q else none
    | none => none

/-- A bound page changed by `f` where it holds the row. -/
def onRow (row : Word16) (f : Page → Page) (p : Option Page) : Option Page :=
  p.map fun q => if q.row = row then f q else q

/-- The page bound to a row, changed by `f`. -/
def ClaimUnit.changePage (u : ClaimUnit) (row : Word16) (f : Page → Page) : ClaimUnit :=
  { u with page0 := onRow row f u.page0, page1 := onRow row f u.page1 }

/-- An entry of a page; a needle beyond the bed reads as empty. -/
def Page.entry (p : Page) (n : Nat) : PageEntry := p.entries.getD n ⟨0, 0, .none⟩

/-- A page fresh from its binding: W empty entries, counts 0, no listen mask (R96). -/
def freshPage (row : Word16) (w : Nat) : Page where
  row := row
  entries := List.replicate w ⟨0, 0, .none⟩
  doubles := 0
  lateDoubles := 0
  listen := 0

/-- A page can be bound to the row: one is bound to it already, or one is FREE (R96). -/
def ClaimUnit.canBind (u : ClaimUnit) (row : Word16) : Bool :=
  (u.pageOf row).isSome || u.page0.isNone || u.page1.isNone

/-- A page is bound to the row at the acceptance of a COVER order (R96). -/
def ClaimUnit.bind (u : ClaimUnit) (row : Word16) (w : Nat) : ClaimUnit :=
  if (u.pageOf row).isSome then u
  else if u.page0.isNone then { u with page0 := some (freshPage row w) }
  else if u.page1.isNone then { u with page1 := some (freshPage row w) }
  else u

/-- A held order names the row as COVER: in the queue or in STANDBY, the ending ACTIVE context not
counted (R97). -/
def CourseCtl.coversRow (c : CourseCtl) (row : Word16) : Bool :=
  c.queue.any (fun o => o.role == .cover && o.row == row) ||
  (match c.standby with | some b => b.order.role == .cover && b.order.row == row | none => false)

/-- A page stays bound only while a held order names its row as COVER (R97). -/
def keepPage (c : CourseCtl) (p : Option Page) : Option Page :=
  match p with
  | some q => if c.coversRow q.row then some q else none
  | none => none

/-- Step 6 of a course end in the claim unit (R97). -/
def State.releasePages (s : State) : State :=
  s.setClaim { s.claim with page0 := keepPage s.course s.claim.page0,
                            page1 := keepPage s.course s.claim.page1 }

/-- The listen mask of the page of a COVER course, the station's own flag removed (R98). -/
def State.listenPage (s : State) (a : Active) : State :=
  if a.order.role = .cover then
    s.setClaim (s.claim.changePage a.order.row fun p =>
      { p with listen := clearBit a.order.listen s.ctl.station.toNat })
  else s

/-- The own mark of needle `n` (R76). -/
def Page.mark (p : Page) (n : Nat) (m : OwnMark) : Page :=
  { p with entries := p.entries.set n { p.entry n with own := m } }

/-! ### Taking a claim -/

/-- The result codes of a CLAIM (R170). -/
def decodeResult (x : Byte) : Option NeedleResult :=
  if x = 0 then some .none else if x = 1 then some .loop else if x = 2 then some .tuck
  else if x = 3 then some .top else if x = 4 then some .failed else none

/-- One claimed needle's entry (R102). -/
def PageEntry.hear (e : PageEntry) (sender : StationNo) (loop : Bool) : PageEntry :=
  { e with heard := setBit e.heard sender.toNat
           looped := if loop then setBit e.looped sender.toNat else e.looped }

/-- The entries from needle `lo`, `k` of them, changed by `f`. -/
def changeFrom (f : PageEntry → PageEntry) : Nat → Nat → List PageEntry → List PageEntry
  | _, _, [] => []
  | 0, 0, l => l
  | 0, k + 1, e :: l => f e :: changeFrom f 0 k l
  | lo + 1, k, e :: l => e :: changeFrom f lo k l

/-- A LOOP from the sender joins a looped set that holds another station (R103). -/
def PageEntry.doubles (e : PageEntry) (sender : StationNo) : Bool :=
  !e.looped.getLsbD sender.toNat && e.looped != 0

/-- A LOOP from the sender joins the looped set of an entry the station itself knitted (R104). -/
def PageEntry.lateFor (e : PageEntry) (sender : StationNo) : Bool :=
  !e.looped.getLsbD sender.toNat && e.own == .loop

/-- A CLAIM of needles `lo`, `k` of them, is applied to its page as one change (R102 to R104). -/
def Page.apply (p : Page) (sender : StationNo) (lo k : Nat) (loop : Bool) : Page :=
  let claimed := (p.entries.drop lo).take k
  { p with
    entries := changeFrom (fun e => e.hear sender loop) lo k p.entries
    doubles :=
      if loop then satAdd p.doubles (claimed.countP fun e => e.doubles sender) else p.doubles
    lateDoubles :=
      if loop && p.listen.getLsbD sender.toNat
      then satAdd p.lateDoubles (claimed.countP fun e => e.lateFor sender) else p.lateDoubles }

/-- A peer's CLAIM: ignored without a bound page, counted when out of range, applied otherwise, its upper
end clamped to the bed (R100, R101). -/
def State.takeClaim (s : State) (sender : StationNo) (b : ClaimBody) : State :=
  match s.claim.pageOf b.row with
  | none => s
  | some _ =>
    match decodeResult b.result with
    | none => s.bump .claimsOutOfRange
    | some x =>
      if s.width ≤ b.first.toNat ∨ b.count.toNat = 0 then s.bump .claimsOutOfRange
      else
        let k := min b.count.toNat (s.width - b.first.toNat)
        (s.setClaim (s.claim.changePage b.row fun p =>
          p.apply sender b.first.toNat k (x == .loop))).bump .claimsApplied

end Sys2Proof.Machine
end

