-- ==== Sys2Proof/Machine/Outcomes.lean ====
section
/-! DEFINITION. The outcome list: results leaving it, and the course counters they raise (4.4, 4.5). -/

namespace Sys2Proof.Machine

/-- The height of an action (R75). -/
def Action.height : Action → Height
  | .miss => .low
  | .tuck => .mid
  | .knit => .high
  | .xfer => .top
  | .recv => .top

/-- The result of a needle that was carried out (R82). -/
def Action.result : Action → NeedleResult
  | .miss => .none
  | .tuck => .tuck
  | .knit => .loop
  | .xfer => .top
  | .recv => .top

/-- The result formed from the outcome and the action (R82). -/
def resultOf (o : NeedleOutcome) (a : Action) : NeedleResult :=
  match o with
  | .done => a.result
  | _ => .failed

/-- The course counter a leaving result adds to (R83). -/
def Tally.add (t : Tally) (x : NeedleResult) : Tally :=
  match x with
  | .none => { t with nones := t.nones + 1 }
  | .loop => { t with loops := t.loops + 1 }
  | .tuck => { t with tucks := t.tucks + 1 }
  | .top => { t with tops := t.tops + 1 }
  | .failed => { t with failed := t.failed + 1 }

/-- The decision counter of an outcome (R84). -/
def NeedleOutcome.counter : NeedleOutcome → Option Counter
  | .done => none
  | .lost => some .needlesLost
  | .fault => some .needlesFaulted
  | .guarded => some .needlesGuarded
  | .disabled => some .needlesRefusedByHead
  | .rail => some .needlesRefusedForRail
  | .ended => some .needlesEnded

/-- The decision counter of an outcome goes up by one (R84). -/
def State.countOutcome (s : State) (o : NeedleOutcome) : State :=
  match o.counter with
  | some k => s.bump k
  | none => s

/-- The course counters changed. -/
def State.setTally (s : State) (t : Tally) : State := s.setCourse { s.course with tally := t }

/-- A counting result is accounted (R83, R84). -/
def State.score (s : State) (o : NeedleOutcome) (a : Action) : State :=
  (s.setTally (s.course.tally.add (resultOf o a))).countOutcome o

/-- The result of a leaving entry goes to the open run while the course announces (R80). -/
def State.announce (s : State) (n : Nat) (x : NeedleResult) : State :=
  match s.course.active with
  | some a => if a.order.announce then s.handRun a n x else s
  | none => s

/-- An entry leaves the list with its outcome (R80). -/
def State.account (s : State) (e : Entry) (o : NeedleOutcome) : State :=
  let t := if e.counting then (s.score o e.action).announce e.needle (resultOf o e.action) else s
  if e.breakAfter then t.closeRun else t

/-- Entries leave from the head of the list as long as it is FINAL (R80). -/
def leaveFrom : List Entry → State → State
  | [], s => s.setDec { s.dec with outcomes := [] }
  | e :: es, s =>
    match e.outcome with
    | some o => leaveFrom es (s.account e o)
    | none => s.setDec { s.dec with outcomes := e :: es }

/-- Every final entry at the head of the outcome list leaves (R80). -/
def State.leave (s : State) : State := leaveFrom s.dec.outcomes s

/-- The head driver's answer makes the UNRESOLVED entry of its needle FINAL; any other answer is
discarded (R79). -/
def resolveEntry (n : Nat) (o : NeedleOutcome) (e : Entry) : Entry :=
  if e.needle = n ∧ e.outcome = none then { e with outcome := some o } else e

/-- An answer is entered in the outcome list (R79). -/
def State.resolve (s : State) (n : Nat) (o : NeedleOutcome) : State :=
  s.setDec { s.dec with outcomes := s.dec.outcomes.map (resolveEntry n o) }

/-- An answer given as an event of its own: it is applied, and entries leave (R79, R80). -/
def State.answer (s : State) (n : Nat) (o : NeedleOutcome) : State := (s.resolve n o).leave

/-- An answer for the needle of a fire, if the fire carries one (R113, R114, R124). -/
def State.answerIf (s : State) (n : Option Nat) (o : NeedleOutcome) : State :=
  match n with
  | some n => s.answer n o
  | none => s

/-- Every entry still UNRESOLVED becomes ENDED (R85). -/
def endEntry (e : Entry) : Entry :=
  match e.outcome with
  | some _ => e
  | none => { e with outcome := some .ended }

/-- Step 1 of a course end: the list is closed, every entry leaves, the open run closes, and the float
counter returns to 0 (R85). -/
def State.closeOutcomes (s : State) : State :=
  let t := ((s.setDec { s.dec with outcomes := s.dec.outcomes.map endEntry }).leave).closeRun
  t.setDec { t.dec with float := 0 }

end Sys2Proof.Machine
end

