-- ==== Sys2Proof/Machine/Head.lean ====
section
/-! DEFINITION. The head driver: requests, fires, the pending request, faults and the rail (06). -/

namespace Sys2Proof.Machine

/-! ### Requests and fires -/

/-- A fire starts for needle `n` and height `h` (R112). -/
def State.startFire (s : State) (n : Nat) (h : Height) : State :=
  (s.setHead { s.head with
    height := none, code := h,
    fire := some { target := h, needle := some n, deadline := s.fireTime } }).bump .firesStarted

/-- The request becomes the pending one, and the older one it replaces is answered LOST at once (R116). -/
def State.replaceWaiting (s : State) (q : Request) : State :=
  let t := s.setHead { s.head with waiting := some q }
  match s.head.waiting with
  | some old => t.resolve old.needle .lost
  | none => t

/-- A request for needle `n` at height `h` is judged at its hand-over; an answer given at once is entered
in the outcome list (R110, R111, R79). -/
def State.request (s : State) (n : Nat) (h : Height) (travel : Dir) : State :=
  if s.head.disabled then s.resolve n .disabled
  else if !s.head.railGood then
    if s.head.height = some h then s.resolve n .done else s.resolve n .rail
  else if s.head.fire.isSome then s.replaceWaiting { needle := n, target := h, travel := travel }
  else if s.head.height = some h then s.resolve n .done
  else s.startFire n h

/-- The hand-over of height `h` would be answered DISABLED or RAIL at once (R69). -/
def State.wouldRefuse (s : State) (h : Height) : Bool :=
  s.head.disabled || (!s.head.railGood && s.head.height != some h)

/-- Needle `n` has passed the selector (R117). -/
def State.passedSelector (s : State) (travel : Dir) (n : Nat) : Bool :=
  match s.pos.idx with
  | none => false
  | some i =>
    match travel with
    | .right => decide ((n : Int) ≤ i.s)
    | .left => decide (i.s ≤ (n : Int))

/-- The pending request is served at a fire's end (R117). -/
def State.serve (s : State) : State :=
  match s.head.waiting with
  | none => s
  | some q =>
    let t := s.setHead { s.head with waiting := none }
    if s.passedSelector q.travel q.needle then t.answer q.needle .lost
    else if s.head.disabled then t.answer q.needle .disabled
    else if s.head.height = some q.target then t.answer q.needle .done
    else if !s.head.railGood then t.answer q.needle .rail
    else t.startFire q.needle q.target

/-! ### The ends of a fire -/

/-- HEAD_CONFIRM: the fire ends confirmed, or the confirm is stray (R113, R115). -/
def execHeadConfirm (s : State) : Host.Outcome State Fault Refusal :=
  match s.head.fire with
  | none => .next (s.bump .strayConfirms)
  | some f =>
    let t := s.setHead { s.head with height := some f.target, fire := none, faults := 0 }
    .next (t.answerIf f.needle .done).serve

/-- The fault count reaching the fault limit disables the head, a level stop cause (R118). -/
def State.judgeFaults (s : State) : State :=
  if s.param (fun r => decide (r.faultLimit ≤ s.head.faults)) false then
    (s.setHead { s.head with disabled := true }).raise .headDisabled
  else s

/-- FIRE_DEADLINE: the fire ends at its deadline; with no fire in flight it has no effect (R114, R115,
R118). -/
def execFireDeadline (s : State) : Host.Outcome State Fault Refusal :=
  match s.head.fire with
  | none => .next s
  | some f =>
    let t := s.setHead { s.head with height := none, fire := none, faults := s.head.faults + 1 }
    let u := (t.setSticky .fireFault).bump .fireDeadlines
    .next (u.answerIf f.needle .fault).judgeFaults.serve

/-- Step 2 of a course end, and a course reset: the pending request is dropped and the fire loses its
needle (R123, R125). -/
def State.detachFire (s : State) : State :=
  s.setHead { s.head with
    waiting := none, fire := s.head.fire.map fun f => { f with needle := none } }

/-- The head driver's part of a course reset (R125). -/
def State.resetHead (s : State) : State :=
  let t := s.detachFire
  t.setHead { t.head with faults := 0, disabled := false }

/-! ### The rail -/

/-- RAIL_INPUT_CHANGE: a change of the input's level restarts the filter's time (R120). -/
def execRailInputChange (level : Bool) (s : State) : Host.Outcome State Fault Refusal :=
  if level = s.head.railLevel then .next s
  else .next (s.setHead { s.head with railLevel := level, railHeld := 0 })

/-- RAIL_FILTER_EXPIRY: a level held for 1 ms against the rail state changes it (R120, R121, R122). -/
def execRailFilterExpiry (s : State) : Host.Outcome State Fault Refusal :=
  let t := s.setHead { s.head with railHeld := Config.railFilterTime }
  if s.head.railLevel = s.head.railGood then .next t
  else if s.head.railLevel then
    .next (t.setHead { t.head with railGood := true, railCause := false })
  else
    .next (((t.setHead { t.head with railGood := false, railCause := true }).raise .railLow).bump
      .railDrops)

end Sys2Proof.Machine
end

