-- ==== Sys2Proof/Machine/SpanList.lean ====
section
/-! DEFINITION. The span list of a row (2.1, 2.4): its form, the lookup of a colour, and the insertion
of a span as one change. -/

namespace Sys2Proof.Machine

/-- The colour of needle `n`: that of the span that contains it, or 0 (R22). -/
def colourAt (n : Nat) (l : List Span) : Nat :=
  match l.find? fun sp => decide (sp.first ≤ n) && decide (n ≤ sp.last) with
  | some sp => sp.colour
  | none => 0

/-- Neighbours in a span list: apart, and of different colours when they touch (R21). -/
def Span.before (x y : Span) : Bool :=
  decide (x.last < y.first) && !(x.last + 1 == y.first && x.colour == y.colour)

/-- A span of a coloured run on a bed of width `w` (R21). -/
def Span.ok (w : Nat) (x : Span) : Bool :=
  decide (x.first ≤ x.last) && decide (x.last < w) && decide (1 ≤ x.colour) && decide (x.colour ≤ 15)

/-- Every two neighbours of the list stand as R21 requires. -/
def chained : List Span → Bool
  | [] => true
  | [_] => true
  | x :: y :: l => x.before y && chained (y :: l)

/-- The canonical form of R21. -/
def canonical (w : Nat) (l : List Span) : Bool :=
  l.all (Span.ok w) && chained l && decide (l.length ≤ Config.spanMax)

/-- The pieces of one span that lie outside `a … b` (R29). -/
def cutSpan (a b : Nat) (x : Span) : List Span :=
  if x.last < a || b < x.first then [x]
  else (if x.first < a then [{ x with last := a - 1 }] else []) ++
       (if b < x.last then [{ x with first := b + 1 }] else [])

/-- The list cut around `a … b` (R29). -/
def cutList (a b : Nat) (l : List Span) : List Span := l.flatMap (cutSpan a b)

/-- The spans of a cut list that end before `a`. -/
def leftOf (a : Nat) (l : List Span) : List Span := l.filter fun x => decide (x.last < a)

/-- The spans of a cut list that begin after `b`. -/
def rightOf (b : Nat) (l : List Span) : List Span := l.filter fun x => decide (b < x.first)

/-- The span that ends at `a - 1` with colour `c`, which the new span merges with (R30). -/
def mergesLeft (a c : Nat) (l : List Span) : Option Span :=
  match (leftOf a l).getLast? with
  | some x => if x.last + 1 = a ∧ x.colour = c then some x else none
  | none => none

/-- The span that starts at `b + 1` with colour `c`, which the new span merges with (R30). -/
def mergesRight (b c : Nat) (l : List Span) : Option Span :=
  match (rightOf b l).head? with
  | some x => if x.first = b + 1 ∧ x.colour = c then some x else none
  | none => none

/-- The list after painting `a … b` in colour `c`: cut, inserted or cleared, merged (R29, R30). -/
def paint (a b c : Nat) (l : List Span) : List Span :=
  let k := cutList a b l
  if c = 0 then k
  else
    let (ls, first) :=
      match mergesLeft a c k with
      | some x => ((leftOf a k).dropLast, x.first)
      | none => (leftOf a k, a)
    let (rs, last) :=
      match mergesRight b c k with
      | some x => ((rightOf b k).tail, x.last)
      | none => (rightOf b k, b)
    ls ++ { first := first, last := last, colour := c } :: rs

/-- The span count worked out before the change: the spans kept whole and the pieces of the cut, one
for a coloured span, less one for each merge (R31). -/
def paintCount (a b c : Nat) (l : List Span) : Nat :=
  let k := cutList a b l
  k.length + (if c = 0 then 0 else 1)
    - (if c ≠ 0 ∧ (mergesLeft a c k).isSome then 1 else 0)
    - (if c ≠ 0 ∧ (mergesRight b c k).isSome then 1 else 0)

end Sys2Proof.Machine
end

