-- ==== Sys2Proof/Machine/Rows.lean ====
section
/-! DEFINITION. The row store: slots, use and pin, taking a SPAN and a CLOSE (02). -/

namespace Sys2Proof.Machine

/-- The four slots, lowest number first. -/
def allSlots : List (Fin 4) := [0, 1, 2, 3]

/-- Every slot changed by `f`. -/
def RowStore.mapSlots (u : RowStore) (f : Option Slot → Option Slot) : RowStore :=
  { u with slots := #v[f u.slots[0], f u.slots[1], f u.slots[2], f u.slots[3]] }

/-- The slot that holds a row (2.2: at most one does). -/
def RowStore.find (u : RowStore) (row : Word16) : Option (Fin 4) :=
  allSlots.find? fun i => match u.slots[i] with
    | some x => x.row == row
    | none => false

/-- The slot state of a row, as the course controller asks for it; none when no slot holds it (R33). -/
def RowStore.stateOf (u : RowStore) (row : Word16) : Option SlotState :=
  match u.find row with
  | some i => u.slots[i].map (·.state)
  | none => none

/-- The number of FREE slots (R39). -/
def RowStore.freeCount (u : RowStore) : Nat := (allSlots.filter fun i => u.slots[i].isNone).length

/-- A slot replaced. -/
def RowStore.put (u : RowStore) (i : Fin 4) (x : Option Slot) : RowStore :=
  { u with slots := u.slots.set i x }

/-- The highest arrival sequence number held, 0 when no slot is held (R24). -/
def RowStore.newestSeq (u : RowStore) : Nat :=
  (allSlots.filterMap fun i => u.slots[i].map (·.seq)).foldl max 0

/-- A slot becomes FREE; every slot with a higher arrival number has it lowered by one (R24). -/
def RowStore.free (u : RowStore) (i : Fin 4) : RowStore :=
  match u.slots[i] with
  | none => u
  | some x => (u.put i none).mapSlots fun y =>
      y.map fun z => if x.seq < z.seq then { z with seq := z.seq - 1 } else z

/-- A FREE slot is taken for a row as the newest slot (R24, R27). -/
def RowStore.takeSlot (u : RowStore) (i : Fin 4) (row : Word16) : RowStore :=
  u.put i (some { state := .filling, row := row, seq := u.newestSeq + 1, count := 0, spans := [] })

/-! ### Use -/

/-- An order the course controller holds names this row: in the queue, in STANDBY or, when `running`
counts the ACTIVE context, in that, unless it is the idle context of R51 (R34). -/
def CourseCtl.namesRow (c : CourseCtl) (row : Word16) (running : Bool) : Bool :=
  c.queue.any (fun o => o.row == row) ||
  (match c.standby with | some b => b.order.row == row | none => false) ||
  (running && match c.active with | some a => !a.starved && a.order.row == row | none => false)

/-- A slot is in use (R34). -/
def slotInUse (c : CourseCtl) (u : RowStore) (i : Fin 4) (running : Bool) : Bool :=
  match u.slots[i] with
  | some x => c.namesRow x.row running
  | none => false

/-- The held slot with the lowest arrival number among those neither in use nor pinned (R27, R35). -/
def evictable (c : CourseCtl) (u : RowStore) : Option (Fin 4) :=
  (allSlots.filter fun i =>
    u.slots[i].isSome && !slotInUse c u i true && u.pinned != some i).foldl
    (fun best i => match best with
      | none => some i
      | some j => match u.slots[i], u.slots[j] with
        | some x, some y => if x.seq < y.seq then some i else some j
        | _, _ => some j) none

/-! ### Row-ready -/

/-- The row-ready event of a row primes the WAITING-ROW contexts that name it: STANDBY, and ACTIVE as
long as its course has not made its row choice (R33, R48). -/
def State.rowReady (s : State) (row : Word16) : State :=
  s.setCourse { s.course with
    standby := s.course.standby.map fun b =>
      if b.status = .waiting ∧ b.order.row = row then { b with status := .primed } else b
    active := s.course.active.map fun a =>
      if a.status = .waiting ∧ a.order.row = row ∧ s.course.choice = none
      then { a with status := .primed } else a }

/-- A slot becomes DAMAGED: counted, and reported row-ready (R23, R33). -/
def State.damageSlot (s : State) (i : Fin 4) (x : Slot) : State :=
  ((s.setRows (s.rows.put i (some { x with state := .damaged }))).bump .rowsDamaged).rowReady x.row

/-! ### SPAN -/

/-- The colour of a SPAN: the low four bits of its byte (R174). -/
def SpanBody.paintColour (b : SpanBody) : Nat := b.colour.toNat % 16

/-- A counted SPAN is checked, clamped and inserted, or refused for capacity (R28, R31). -/
def State.insertSpan (s : State) (i : Fin 4) (x : Slot) (body : SpanBody) : State :=
  let a := body.first.toNat
  if s.width ≤ a ∨ body.length.toNat = 0 then s.bump .spansIgnored
  else
    let b := min (a + body.length.toNat - 1) (s.width - 1)
    if paintCount a b (SpanBody.paintColour body) x.spans ≤ Config.spanMax then
      s.setRows (s.rows.put i
        (some { x with spans := paint a b (SpanBody.paintColour body) x.spans }))
    else s.damageSlot i x

/-- A SPAN for the row of slot `i`: counted and inserted while FILLING, late otherwise (R26). -/
def State.spanInto (s : State) (i : Fin 4) (body : SpanBody) : State :=
  match s.rows.slots[i] with
  | none => s
  | some x =>
    if x.state = .filling then
      let y := { x with count := satAdd x.count 1 }
      (s.setRows (s.rows.put i (some y))).insertSpan i y body
    else s.bump .lateSpans

/-- A SPAN addressed to the station finds, takes, evicts or is refused a slot (R26, R27). -/
def State.takeSpan (s : State) (body : SpanBody) : State :=
  match s.rows.find body.row with
  | some i => s.spanInto i body
  | none =>
    match allSlots.find? fun i => s.rows.slots[i].isNone with
    | some i => (s.setRows (s.rows.takeSlot i body.row)).spanInto i body
    | none =>
      match evictable s.course s.rows with
      | some i =>
        ((s.setRows ((s.rows.free i).takeSlot i body.row)).bump .rowEvictions).spanInto i body
      | none => (s.setSticky .rowRefused).bump .rowRefusals

/-! ### CLOSE -/

/-- A CLOSE for the station acts on the FILLING slot of its row (R32). DESIGN CHOICE: the count is compared
as saturated, so a row of more than 65,535 SPANs is CLOSED by a count of 65,535 (log 34). -/
def State.takeClose (s : State) (body : CloseBody) : State :=
  match s.rows.find body.row with
  | none => s
  | some i =>
    match s.rows.slots[i] with
    | none => s
    | some x =>
      if x.state = .filling then
        if x.count = body.count.toNat then
          (s.setRows (s.rows.put i (some { x with state := .closed }))).rowReady x.row
        else s.damageSlot i x
      else s

/-! ### Course end -/

/-- The pin moves to the slot of the finished course's row if that row was read clean (R36). -/
def RowStore.movePin (u : RowStore) (row : Word16) (clean : Bool) : RowStore :=
  if clean then
    match u.find row with
    | some i => { u with pinned := some i }
    | none => u
  else u

/-- Step 6 of a course end in the row store: the pin moves, then each slot that was in use or pinned and
is neither any more is freed (R36, R37). -/
def State.releaseRows (s : State) (row : Word16) (clean : Bool) : State :=
  let before := s.rows
  let moved := before.movePin row clean
  s.setRows (allSlots.foldl (fun u i =>
    if (slotInUse s.course before i true || before.pinned == some i) &&
       !(slotInUse s.course moved i false || moved.pinned == some i)
    then u.free i else u) moved)

end Sys2Proof.Machine
end

