-- ==== Sys2Proof/Machine/Decision.lean ====
section
/-! DEFINITION. The decision of one needle (4.1 to 4.4): the window, the row choice, the yarn guard, the
roles, the float tie, the own mark, and the arrival as a whole. -/

namespace Sys2Proof.Machine

/-- A needle inside the window of the ACTIVE context (R67). -/
def Active.inWindow (a : Active) (n : Nat) : Bool :=
  decide (a.order.winFirst ≤ n) && decide (n ≤ a.order.winLast)

/-- The number of needles of the window (R59). -/
def Active.windowSize (a : Active) : Nat := a.order.winLast + 1 - a.order.winFirst

/-- A counting arrival: a window needle of a PATTERN, COVER or BACKING course (R67). -/
def Active.counts (a : Active) (n : Nat) : Bool := a.inWindow n && a.order.role != .idle

/-- A course that reads a row (R57). -/
def Active.readsRow (a : Active) : Bool := a.order.role == .pattern || a.order.role == .cover

/-! ### The row choice -/

/-- What a course of a late or damaged row falls back on under HOLD (R57). -/
def RowStore.heldChoice (u : RowStore) : RowChoice :=
  if u.pinned.isSome then .pinned else .nothing

/-- The row source and the course flag of the table of R57. -/
def rowChoiceOf (status : RowStatus) (slot : Option SlotState) (policy : RowPolicy) (u : RowStore) :
    RowChoice × Option CourseFlag :=
  match status, slot with
  | .primed, some .closed => (.own, none)
  | _, some .damaged =>
    (match policy with | .hold => u.heldChoice | .use => .own, some .rowDamaged)
  | _, some _ => (match policy with | .hold => u.heldChoice | .use => .own, some .rowLate)
  | _, none => (match policy with | .hold => u.heldChoice | .use => .nothing, some .rowLate)

/-- The row choice at the first window arrival: the source, clean row read, and ROW LATE or ROW DAMAGED
(R57, R58). -/
def State.chooseRow (s : State) (a : Active) : State :=
  let slot := s.rows.stateOf a.order.row
  let x := rowChoiceOf a.status slot (s.param (·.rowPolicy) .hold) s.rows
  let t := s.setCourse { s.course with
    choice := some x.1, cleanRead := x.1 == .own && slot == some .closed }
  match x.2 with
  | some f => t.setCourseFlag f
  | none => t

/-- The slot a course reads (R22, R38). -/
def State.sourceSlot (s : State) (a : Active) : Option Slot :=
  match s.course.choice with
  | some .own => (s.rows.find a.order.row).bind fun i => s.rows.slots[i]
  | some .pinned => s.rows.pinned.bind fun i => s.rows.slots[i]
  | _ => none

/-- The colour of a needle in the row source; 0 when the source is none (R22). -/
def State.colour (s : State) (a : Active) (n : Nat) : Nat :=
  match s.sourceSlot a with
  | some x => colourAt n x.spans
  | none => 0

/-! ### The roles -/

/-- The colour is in the order's colour set (R70). -/
def Active.selects (a : Active) (colour : Nat) : Bool := a.order.colours.getLsbD colour

/-- What the claim page says of a needle against the listen mask, the station's own flag removed (R71,
R72). -/
def coverAction (a : Active) (e : PageEntry) (station : StationNo) (policy : UnheardPolicy) : Action :=
  let listen := clearBit a.order.listen station.toNat
  if e.looped &&& listen ≠ 0 then a.order.unselected
  else if e.heard &&& listen = listen then a.order.selected
  else match policy with
    | .fill => a.order.selected
    | .trust => a.order.unselected

/-- The entry of needle `n` in the page bound to the ACTIVE row (R71). -/
def State.pageEntry (s : State) (a : Active) (n : Nat) : PageEntry :=
  match s.claim.pageOf a.order.row with
  | some p => p.entry n
  | none => ⟨0, 0, .none⟩

/-- The entry of the backing table for needle `n` (R73). -/
def State.backingAction (s : State) (n : Nat) : Action :=
  s.course.table.getD ((n + s.course.phase) % s.course.table.length) .miss

/-- Steps 5 to 7 of the ranking: the action the role chooses (R70, R71, R73). DESIGN CHOICE: without a setup
record, a state the rules exclude, the unheard policy reads as FILL (R72, log 18). -/
def State.roleAction (s : State) (a : Active) (n : Nat) : Action :=
  match a.order.role with
  | .idle => .miss
  | .pattern => if a.selects (s.colour a n) then a.order.selected else a.order.unselected
  | .cover =>
    if a.selects (s.colour a n) then a.order.selected
    else coverAction a (s.pageEntry a n) s.ctl.station (s.param (·.unheard) .fill)
  | .backing => s.backingAction n

/-- The float tie applies to the course (R74). -/
def State.ties (s : State) (a : Active) : Bool :=
  a.order.courseType == .knit && a.readsRow && a.order.floatTie && s.param (·.floatLimit) 0 != 0

/-- Step 8 of the ranking: the action and the float counter after it (R74). -/
def tie (limit float : Nat) (x : Action) : Action × Nat :=
  match x with
  | .miss => if limit ≤ float + 1 then (.tuck, 0) else (.miss, float + 1)
  | .tuck => (x, 0)
  | .knit => (x, 0)
  | _ => (x, float)

/-- Steps 5 to 8 for a needle that passes the guard: its action, and the float counter (R69, R74). -/
def State.chooseAction (s : State) (a : Active) (n : Nat) : Action × Nat :=
  let x := s.roleAction a n
  if s.ties a then tie (s.param (·.floatLimit) 0) s.dec.float x else (x, s.dec.float)

/-! ### The arrival -/

/-- The yarn guard holds the needle: the order has a carrier that is not held for the course (R68). -/
def State.guards (s : State) (a : Active) : Bool := a.order.carrier.isSome && !s.carrierHeld

/-- A counting arrival adds one to decided, and the first window arrival of a course that reads a row
makes the row choice (steps 1 and 2 of R66). -/
def State.countArrival (s : State) (a : Active) : State :=
  let t := s.setTally { s.course.tally with decided := s.course.tally.decided + 1 }
  if a.readsRow && t.course.choice.isNone then t.chooseRow a else t

/-- The own mark of a counting arrival of a COVER course (R76). DESIGN CHOICE: a KNIT whose hand-over is answered
RAIL or DISABLED at once is marked OWN-OTHER also where the outcome list is full and it has no entry (log 36). -/
def State.markOwn (s : State) (a : Active) (n : Nat) (x : Action) : State :=
  if a.order.role = .cover then
    let m := if x = .knit ∧ s.wouldRefuse x.height = false then OwnMark.loop else OwnMark.other
    s.setClaim (s.claim.changePage a.order.row fun p => p.mark n m)
  else s

/-- The break-after mark of the entry at the tail of the list (R78). -/
def breakTail (l : List Entry) : List Entry :=
  match l.getLast? with
  | some e => l.dropLast ++ [{ e with breakAfter := true }]
  | none => l

/-- The needle is entered in the outcome list, or is untracked when the list is full (R77, R78). -/
def State.enter (s : State) (n : Nat) (counting : Bool) (x : Action) (guarded : Bool) : State :=
  if s.dec.outcomes.length < Config.outcomeMax then
    s.setDec { s.dec with outcomes := s.dec.outcomes ++
      [{ needle := n, counting := counting, action := x,
         outcome := if guarded then some .guarded else none, breakAfter := false }] }
  else if counting then
    ((s.setDec { s.dec with outcomes := breakTail s.dec.outcomes }).setTally
      { s.course.tally with untracked := s.course.tally.untracked + 1 }).bump .needlesUntracked
  else s

/-- Steps 5 to 7 of R66: the needle is entered and handed to the head driver, and final entries leave. -/
def State.handOver (s : State) (a : Active) (n : Nat) (counting : Bool) (x : Action)
    (guarded : Bool) : State :=
  ((s.enter n counting x guarded).request n x.height a.travel).leave

/-- A counting arrival (R66, R68, R69). -/
def State.arriveCounting (s : State) (a : Active) (n : Nat) : State :=
  let t := s.countArrival a
  if t.guards a then (t.markOwn a n .miss).handOver a n true .miss true
  else
    let x := t.chooseAction a n
    ((t.setDec { t.dec with float := x.2 }).markOwn a n x.1).handOver a n true x.1 false

/-- Needle `n` arrives in the running course (R66). -/
def State.arrive (s : State) (n : Nat) : State :=
  match s.course.active with
  | none => s
  | some a =>
    if a.counts n then s.arriveCounting a n else s.handOver a n false .miss false

end Sys2Proof.Machine
end

