-- ==== Sys2Proof/Machine/Position.lean ====
section
/-! DEFINITION. The position unit's own arithmetic: quadrature (1.1), direction (1.2), and the needle
indices (1.4). What an edge or the reference mark does to the whole station is in Encoder.lean. -/

namespace Sys2Proof.Machine

/-! ### Counting -/

/-- An edge as R1 judges it. -/
inductive Edge
  | still | up | down | illegal
  deriving DecidableEq, Repr

/-- The place of a pair of levels in the sequence (0,0), (1,0), (1,1), (0,1) of travel to the RIGHT. -/
def phaseNo (a b : Bool) : Nat :=
  match a, b with
  | false, false => 0
  | true, false => 1
  | true, true => 2
  | false, true => 3

/-- The table of R1: one place on is +1, one place back -1, two places illegal. -/
def judgeEdge (a b a' b' : Bool) : Edge :=
  match (phaseNo a' b' + 4 - phaseNo a b) % 4 with
  | 0 => .still
  | 1 => .up
  | 2 => .illegal
  | _ => .down

/-- A count within the counting range (R3). -/
def inRange (c : Int) : Bool := decide (Config.posMin ≤ c) && decide (c ≤ Config.posMax)

/-! ### Direction -/

/-- What an edge does to the direction (R4, R5): leaving UNKNOWN is not a direction change. -/
inductive Turn
  | none | established | change (dir : Dir)
  deriving DecidableEq, Repr

/-- A legal edge that changed C to `c` is offered to the tracker (R4, R5). -/
def Tracker.move (t : Tracker) (c : Int) : Tracker × Turn :=
  match t with
  | .unknown low high =>
    let low' := min low c
    let high' := max high c
    if low' + Config.hysteresis ≤ c then (.right c, .established)
    else if c ≤ high' - Config.hysteresis then (.left c, .established)
    else (.unknown low' high', .none)
  | .right e =>
    if e < c then (.right c, .none)
    else if c ≤ e - Config.hysteresis then (.left c, .change .left)
    else (.right e, .none)
  | .left e =>
    if c < e then (.left c, .none)
    else if e + Config.hysteresis ≤ c then (.right c, .change .right)
    else (.left e, .none)

/-! ### From count to needle -/

/-- The magnitude of the rounded quotient of R12 and R13. -/
def roundNat (r : Rounding) (m p : Nat) : Nat :=
  match r with
  | .trunc => m / p
  | .nearest =>
    if 2 * (m % p) < p then m / p
    else if p < 2 * (m % p) then m / p + 1
    else if m / p % 2 = 0 then m / p else m / p + 1

/-- The quotient q of R11: rounded on the magnitude, with the sign of D restored (R12, R13). -/
def roundDiv (r : Rounding) (dividend : Int) (p : Nat) : Int :=
  if dividend < 0 then -(roundNat r dividend.natAbs p : Int) else (roundNat r dividend.natAbs p : Int)

/-- The anticipation with the sign of the direction (R10). -/
def signedAnticipation (t : Tracker) (a : Nat) : Int :=
  match t with
  | .unknown _ _ => 0
  | .right _ => a
  | .left _ => -(a : Int)

/-- The index of an offset count X: D = X * 256 + bed phase, rounded (R11), with the racking taken off
at a BACK station (R14). -/
def needleIndex (r : SetupRec) (bedBack : Bool) (racking x : Int) : Int :=
  roundDiv r.rounding (x * 256 + r.phase) r.pitch - (if bedBack then racking else 0)

/-- The three indices of the present count, direction and racking; absent in SETUP (R10). -/
def State.indicesNow (s : State) : Option Indices :=
  s.setup?.map fun r =>
    let x := s.pos.c + r.offset
    { d := needleIndex r s.ctl.bedBack s.pos.racking
             (x + signedAnticipation s.pos.tracker r.anticipation)
      s := needleIndex r s.ctl.bedBack s.pos.racking x
      p := needleIndex r s.ctl.bedBack s.pos.racking
             (x + (if s.ctl.owner then r.pinOffset else 0)) }

/-- The indices formed anew, without more (R10). -/
def State.reindex (s : State) : State := s.setPos { s.pos with idx := s.indicesNow }

/-- The pin index, when there is one. -/
def State.pinIndex (s : State) : Option Int := s.pos.idx.map (·.p)

/-! ### Arrivals -/

/-- The needles that arrive when the decision index goes from the frontier `f` to `d` in a course
travelling `dir`, on a bed of width `w`, in travel order (R17). -/
def arriving (dir : Dir) (f d : Int) (w : Nat) : List Nat :=
  match dir with
  | .right =>
    let lo := (max (f + 1) 0).toNat
    let hi := (min (d + 1) (w : Int)).toNat
    (List.range (hi - lo)).map (lo + ·)
  | .left =>
    let lo := (max d 0).toNat
    let hi := (min f (w : Int)).toNat
    ((List.range (hi - lo)).map (lo + ·)).reverse

/-- The decision index lies beyond the frontier in the course's direction (R17). -/
def beyond (dir : Dir) (f d : Int) : Bool :=
  match dir with
  | .right => decide (f < d)
  | .left => decide (d < f)

end Sys2Proof.Machine
end

