-- ==== Sys2Proof/Machine/Course.lean ====
section
/-! DEFINITION. The course controller: orders (3.1), priming (3.2), course start (3.3), backing (3.4),
course end (3.6), and the direction change event (R49). -/

namespace Sys2Proof.Machine

/-! ### Priming -/

/-- The row status of an order that enters STANDBY (R47). -/
def entryStatus (o : Order) (slot : Option SlotState) : RowStatus :=
  if o.role = .pattern ∨ o.role = .cover then
    match slot with
    | some .closed => .primed
    | some .damaged => .primed
    | _ => .waiting
  else .primed

/-- Priming: with STANDBY EMPTY the head of the queue enters it, and its TAKE is made (R47). -/
def State.prime (s : State) : State :=
  match s.course.standby, s.course.queue with
  | none, o :: os =>
    (s.setCourse { s.course with
      queue := os
      standby := some { order := o, status := entryStatus o (s.rows.stateOf o.row) } }).standbyTakeFor o
  | _, _ => s

/-! ### Orders -/

/-- The actions an order may carry (R43). -/
def actionAllowed (ty : CourseType) (bedBack : Bool) (x : Action) : Bool :=
  match ty with
  | .knit => x == .miss || x == .tuck || x == .knit
  | .transfer => x == .miss || (if bedBack then x == .recv else x == .xfer)

/-- The checks of R42 that follow the coded fields, in the order of the table; the reason is that of the
first that fails. -/
def State.refusalOf (s : State) (o : Order) : Option RefusalReason :=
  if Config.queueMax ≤ s.course.queue.length then some .queueFull
  else if o.racking < -Config.rackingMax ∨ Config.rackingMax < o.racking then some .rackingRange
  else if (o.role = .cover ∨ o.role = .backing) ∧ o.courseType = .transfer then some .roleNotAllowed
  else if !(actionAllowed o.courseType s.ctl.bedBack o.selected &&
            actionAllowed o.courseType s.ctl.bedBack o.unselected) then some .actionNotAllowed
  else if o.carrier.isSome ∧ o.source = .own ∧ s.ctl.owner = false then some .noCarrierPin
  else if o.role = .cover ∧ s.claim.canBind o.row = false then some .noClaimPage
  else none

/-- A refused order (R45). -/
def State.refuseOrder (s : State) (r : RefusalReason) : State :=
  ((s.setCourse { s.course with lastRefusal := some r }).setSticky .orderRefused).bump .ordersRefused

/-- The window clamped at acceptance (R44). -/
def Order.clampWindow (o : Order) (w : Nat) : Order := { o with winLast := min o.winLast (w - 1) }

/-- An accepted order binds a page if it is COVER, joins the queue, and priming runs (R42, R44, R96). -/
def State.acceptOrder (s : State) (o : Order) : State :=
  let t := if o.role = .cover then s.setClaim (s.claim.bind o.row s.width) else s
  (t.setCourse { t.course with queue := t.course.queue ++ [o.clampWindow s.width] }).prime

/-- An ORDER that reaches the course controller (R41, R42). -/
def State.takeOrder (s : State) (b : OrderBody) : State :=
  match OrderBody.decode b with
  | none => s.refuseOrder .undefinedCode
  | some o =>
    match s.refusalOf o with
    | some r => s.refuseOrder r
    | none => s.acceptOrder o

/-! ### Backing -/

/-- A BACKING that reaches the course controller (R55). -/
def State.takeBacking (s : State) (b : BackingBody) : State :=
  if BackingBody.lengthOk b then
    s.setCourse { s.course with shadow := some (BackingBody.table b) }
  else s.setSticky .backingRefused

/-- Step 6 of a course start: a pending load is applied, then a BACKING course advances the phase
(R56). -/
def State.loadBacking (s : State) (a : Active) : State :=
  let table := s.course.shadow.getD s.course.table
  let phase := if s.course.shadow.isSome then 0 else s.course.phase
  s.setCourse { s.course with
    table := table
    shadow := none
    phase := if a.order.role = .backing then (phase + a.order.step) % table.length else phase }

/-! ### Course end -/

/-- The end kind of a course (R59). -/
def endKindOf (a : Active) (decided : Nat) : EndKind :=
  if a.order.role = .idle then .idle
  else if decided = a.windowSize then .complete
  else .cut

/-- The REPORT of the ending course (R61). -/
def State.reportOf (s : State) (a : Active) (kind : EndKind) : Report where
  pass := a.order.pass
  row := a.order.row
  kind := kind
  flags := s.course.flags
  tally := s.course.tally
  doubles := if a.order.role = .cover then
    (match s.claim.pageOf a.order.row with | some p => p.doubles | none => 0) else 0
  lateDoubles := if a.order.role = .cover then
    (match s.claim.pageOf a.order.row with | some p => p.lateDoubles | none => 0) else 0
  freeSlots := s.rows.freeCount
  freeOrders := Config.queueMax - s.course.queue.length

/-- The verdict of a course is unclean (R62). -/
def CourseCtl.unclean (c : CourseCtl) : Bool :=
  c.tally.failed != 0 || c.tally.untracked != 0 || c.flags &&& uncleanFlags != 0

/-- The history with a verdict entered as the newest (R187). -/
def pushVerdict (h : Vector Bool 8) (v : Bool) : Vector Bool 8 :=
  #v[v, h[0], h[1], h[2], h[3], h[4], h[5], h[6]]

/-- The number of unclean verdicts (R187). -/
def uncleanCount (h : Vector Bool 8) : Nat := h.toList.count true

/-- Step 5 of a course end: the verdict enters the history, and UNCLEAN is raised when the unclean
verdicts exceed the tolerance (R187). -/
def State.enterVerdict (s : State) (v : Bool) : State :=
  let h := pushVerdict s.ctl.history v
  let t := s.setCtl { s.ctl with history := h }
  if s.param (·.unclean) 0 < uncleanCount h then t.raise .unclean else t

/-- The course of `a` ends at a direction change, step by step (R60). DESIGN CHOICE: no other event is taken
within it; a CLAIM that R106 takes between its steps 4 and 6 is here taken before it or after it (log 35). -/
def State.endCourse (s : State) (a : Active) : State :=
  let kind := endKindOf a s.course.tally.decided
  let s1 := s.closeOutcomes
  let s2 := s1.detachFire
  let s3 := s2.settleCarrier
  let s4 := s3.offer (.report (s3.reportOf a kind))
  let s5 := s4.enterVerdict s4.course.unclean
  let s6 := (s5.releaseRows a.order.row s5.course.cleanRead).releasePages
  (s6.setCourse { s6.course with active := none }).setPos { s6.pos with frontier := none }

/-! ### Course start -/

/-- An order that decides nothing: role IDLE, an empty window, no carrier, racking 0, no claims. -/
def Order.idled (o : Order) : Order :=
  { o with role := .idle, winFirst := 1, winLast := 0, carrier := none, racking := 0,
           announce := false }

/-- The order of the idle context of R51: its pass and row are given, and nothing reads the fields R51
does not name (log 13). -/
def idleOrder (pass : Word16) : Order where
  pass := pass
  row := 0
  courseType := .knit
  direction := .right
  role := .idle
  selected := .miss
  unselected := .miss
  colours := 0
  listen := 0
  carrier := none
  source := .own
  announce := false
  floatTie := false
  winFirst := 1
  winLast := 0
  racking := 0
  step := 0

/-- Steps 2 and 3 of a course start: STANDBY becomes ACTIVE, or an idle context when it is EMPTY (R51);
an order of the other direction is consumed as IDLE (R52). -/
def CourseCtl.nextActive (c : CourseCtl) (dir : Dir) : Active :=
  match c.standby with
  | none => { order := idleOrder (c.expected.getD 0), status := .primed, travel := dir, starved := true }
  | some b =>
    { order := if b.order.direction = dir then b.order else b.order.idled
      status := b.status, travel := dir, starved := false }

/-- The order in STANDBY names the other direction (R52). -/
def CourseCtl.mismatched (c : CourseCtl) (dir : Dir) : Bool :=
  match c.standby with
  | none => false
  | some b => b.order.direction != dir

/-- Step 4 of a course start finds PASS SKEW (R53). -/
def CourseCtl.skewed (c : CourseCtl) (a : Active) : Bool :=
  match c.expected with
  | none => false
  | some p => a.order.pass != p

/-- Steps 2 to 5 of a course start: the new ACTIVE context, PASS SKEW, the expected pass, and the course
flags and counters begun anew (R50 to R54). -/
def State.activate (s : State) (dir : Dir) : State :=
  let a := s.course.nextActive dir
  let t := if s.course.skewed a then s.setSticky .passSkew else s
  let u := t.setCourse { s.course with
    standby := none, active := some a, expected := some (a.order.pass + 1),
    flags := 0, tally := ⟨0, 0, 0, 0, 0, 0, 0⟩ }
  let v := if a.starved then u.setCourseFlag .starve else u
  let w := if s.course.mismatched dir then v.setCourseFlag .direction else v
  if s.line.degraded then w.setCourseFlag .lineDegraded else w

/-- The racking of a course is handed to the position unit, which forms the indices with it (R14). -/
def State.applyRacking (s : State) (racking : Int) : State :=
  (s.setPos { s.pos with racking := racking }).reindex

/-- Steps 7 and 8 of a course start: the row choice is not yet made, and the new context is handed to the
blocks (R50, R65, R89, R98, R136). -/
def State.handContext (s : State) (a : Active) : State :=
  let s1 := s.setCourse { s.course with choice := none, cleanRead := false }
  let s2 := s1.applyRacking a.order.racking
  let s3 := s2.setDec { s2.dec with float := 0 }
  let s4 := s3.setClaim { s3.claim with run := none }
  (s4.listenPage a).formCarrier a

/-- Steps 2 to 9 of a course start (R50). -/
def State.startCourse (s : State) (dir : Dir) : State :=
  let a := s.course.nextActive dir
  (((s.activate dir).loadBacking a).handContext a).prime

/-- The frontier of a new course is the decision index then held, and the needle it names arrives at once
when it is on the bed (R16). -/
def State.openFrontier (s : State) : State :=
  match s.pos.idx with
  | none => s
  | some i =>
    let t := s.setPos { s.pos with frontier := some i.d }
    if 0 ≤ i.d ∧ i.d < (s.width : Int) then t.arrive i.d.toNat else t

/-- The direction change event: in RUN the running course ends and a new one starts (R49, R50, R16). -/
def State.directionChange (s : State) (dir : Dir) : State :=
  match s.ctl.mode with
  | .setup => s
  | .ready _ => s
  | .run _ =>
    let t := match s.course.active with
      | some a => s.endCourse a
      | none => s
    (t.startCourse dir).openFrontier

/-- The course controller's part of a course reset (R63). -/
def State.resetCourse (s : State) : State :=
  s.setCourse { s.course with
    queue := [], standby := none, active := none, expected := none, choice := none,
    cleanRead := false, shadow := none, flags := 0, tally := ⟨0, 0, 0, 0, 0, 0, 0⟩ }

end Sys2Proof.Machine
end

