-- ==== Sys2Proof/Machine/Encoder.lean ====
section
/-! DEFINITION. The encoder and the reference mark: what an edge and a reference load do to the station
(1.1 to 1.3, 1.5). -/

namespace Sys2Proof.Machine

/-- The indices formed anew, a change of the pin index being reported to the carrier unit (R10). -/
def State.form (s : State) : State :=
  let t := s.reindex
  match s.pos.idx, t.pos.idx with
  | some i, some j => if i.p = j.p then t else t.pinMoved i.p j.p
  | _, _ => t

/-- Needles arrive one after another (R17, R66). -/
def arriveAll : List Nat → State → State
  | [], s => s
  | n :: ns, s => arriveAll ns (s.arrive n)

/-- The decision index has moved: in a running course each on-bed needle passed beyond the frontier
arrives, in travel order, and the frontier follows (R17, R18). -/
def State.arrivals (s : State) : State :=
  match s.course.active, s.pos.frontier, s.pos.idx with
  | some a, some f, some i =>
    if beyond a.travel f i.d then
      arriveAll (arriving a.travel f i.d s.width) (s.setPos { s.pos with frontier := some i.d })
    else s
  | _, _, _ => s

/-- A legal edge has moved C to `c`: the tracker judges it, the indices are formed anew, and either the
direction change event is raised or needles arrive (R4 to R6, R10, R17). -/
def State.countTo (s : State) (c : Int) : State :=
  let x := s.pos.tracker.move c
  let t := (s.setPos { s.pos with c := c, tracker := x.1 }).form
  match x.2 with
  | .change dir => t.directionChange dir
  | _ => t.arrivals

/-- A legal edge adds `delta` to C, or is held at a limit of the counting range (R1, R3). -/
def State.legalEdge (s : State) (delta : Int) : State :=
  if inRange (s.pos.c + delta) then s.countTo (s.pos.c + delta) else s.setSticky .posLimit

/-- ENCODER_EDGE: the edge is judged by the levels before and after it, and the decoder phase takes the
new levels (R1, R2). -/
def execEncoderEdge (a b : Bool) (s : State) : Host.Outcome State Fault Refusal :=
  let t := s.setPos { s.pos with phaseA := a, phaseB := b }
  match judgeEdge s.pos.phaseA s.pos.phaseB a b with
  | .still => .next t
  | .up => .next (t.legalEdge 1)
  | .down => .next (t.legalEdge (-1))
  | .illegal => .next ((t.setSticky .encoder).bump .encoderErrors)

/-- Every reference load after the first is checked for slip (R8, R9). -/
def State.checkSlip (s : State) (r : SetupRec) : State :=
  if s.pos.referenced && decide (r.tolerance < (s.pos.c - r.kref).natAbs)
  then (s.setSticky .slip).raise .slip else s

/-- The first reference load moves the station from READY to RUN (R8, R176). -/
def Mode.referenced : Mode → Mode
  | .setup => .setup
  | .ready r => .run r
  | .run r => .run r

/-- A reference load: C and the extreme mark become Kref, the indices are formed anew, and the movement
of the decision index is treated as any other (R7, R8, R9). -/
def State.loadReference (s : State) (r : SetupRec) : State :=
  let t := s.checkSlip r
  let u := t.setPos { t.pos with c := r.kref, tracker := .right r.kref, referenced := true }
  ((u.setCtl { u.ctl with mode := u.ctl.mode.referenced }).form).arrivals

/-- REFERENCE_MARK: taken while travelling RIGHT in READY or RUN, ignored otherwise (R7). -/
def execReferenceMark (s : State) : Host.Outcome State Fault Refusal :=
  match s.pos.tracker, s.setup? with
  | .right _, some r => .next (s.loadReference r)
  | _, _ => .next s

end Sys2Proof.Machine
end

