-- ==== Sys2Proof/Machine/Line.lean ====
section
/-! DEFINITION. The line interface: what its events do to the receiver, the transmitter, the guard and
the health monitor (8.1 to 8.8). -/

namespace Sys2Proof.Machine

/-! ### The receiver -/

/-- The end mark of a notice ends its reception: RECEIVING becomes IDLE, and the idle time starts (R150,
R151, log 5). -/
def State.endMark (s : State) : State :=
  s.setLine { s.line with
    idleTime := 0
    receiver := match s.line.receiver with
      | .receiving => .idle
      | r => r }

/-- The receiver hears a notice: RECEIVING, or IDLE, where the command stands for the notice's start mark
too. In WAIT-IDLE and DISCARDING it ignores the line (R151, log 2). -/
def State.hears (s : State) : Bool :=
  match s.line.receiver with
  | .idle => true
  | .receiving => true
  | _ => false

/-- A notice that the receiver hears is taken at its end mark (R151, R163). -/
def State.heard (s : State) (f : State → State) : State := if s.hears then f s.endMark else s

/-- RECEIVER_IDLE: 3 bit times of recessive line make a WAIT-IDLE or DISCARDING receiver IDLE (R151); to
an IDLE one they are the idle time that permits a start (R150, log 17). -/
def execReceiverIdle (s : State) : Host.Outcome State Fault Refusal :=
  match s.line.receiver with
  | .receiving => .next s
  | _ => .next (s.setLine { s.line with receiver := .idle, idleTime := Config.idleNeeded })

/-- START_MARK: in IDLE a start mark makes the receiver RECEIVING (R150, R151). -/
def execStartMark (s : State) : Host.Outcome State Fault Refusal :=
  match s.line.receiver with
  | .idle => .next (s.setLine { s.line with receiver := .receiving, idleTime := 0 })
  | _ => .next s

/-! ### Damaged notices and line health -/

/-- The line health becomes DEGRADED, which marks a running course (R166, R167). -/
def State.degrade (s : State) : State :=
  let t := (s.setLine { s.line with degraded := true, cleanWindows := 0 }).bump .degradations
  if t.running then t.setCourseFlag .lineDegraded else t

/-- A line error in the health monitor's window; no window runs before SETUP is accepted (R166). -/
def State.noteError (s : State) : State :=
  match s.setup? with
  | none => s
  | some r =>
    let n := min (s.line.windowErrors + 1) Config.windowErrorMax
    let t := s.setLine { s.line with windowErrors := n }
    if r.errorThreshold ≤ n ∧ s.line.degraded = false then t.degrade else t

/-- The counter of a failed check (R159, R168). -/
def lineErrorCounter : LineErrorKind → Counter
  | .length => .lengthErrors
  | .check => .checkErrors
  | .classCode => .classMismatches
  | .bodyLength => .lengthErrors

/-- LINE_ERROR: the notice is discarded and counted (R159, R166). -/
def execLineError (kind : LineErrorKind) (s : State) : Host.Outcome State Fault Refusal :=
  .next (s.heard fun t => (t.bump (lineErrorCounter kind)).noteError)

/-- SYMBOL_ERROR: the notice under way is discarded and counted, and the receiver is DISCARDING (R151,
R159). -/
def execSymbolError (s : State) : Host.Outcome State Fault Refusal :=
  .next (s.heard fun t =>
    ((t.setLine { t.line with receiver := .discarding }).bump .symbolErrors).noteError)

/-- A window of the health monitor is judged at its end (R167). -/
def Line.endWindow (l : Line) : Line :=
  let clean := if l.windowErrors = 0 then min (l.cleanWindows + 1) Config.cleanMax else 0
  { l with
    windowErrors := 0
    cleanWindows := clean
    degraded := l.degraded && decide (clean < Config.cleanMax) }

/-- LINE_WINDOW_END: windows run from the acceptance of SETUP (R166, R167). -/
def execLineWindowEnd (s : State) : Host.Outcome State Fault Refusal :=
  match s.setup? with
  | none => .next s
  | some _ => .next (s.setLine s.line.endWindow)

/-! ### Clash and foreign notices -/

/-- A good notice bearing the station's own number that it did not send (R160). -/
def State.clash (s : State) : State := (s.setSticky .addressClash).raise .addressClash

/-- ADDRESS_CLASH, whatever the kind (R160). -/
def execAddressClash (_kind : BitVec 5) (s : State) : Host.Outcome State Fault Refusal :=
  .next (s.heard fun t => t.clash)

/-- A good notice from a station: a clash when it bears the station's own number, else taken (R160,
R161). -/
def State.fromPeer (s : State) (sender : StationNo) (f : State → State) : State :=
  s.heard fun t => if sender = t.ctl.station then t.clash else f t

/-- A foreign notice is counted; an unknown kind and a pattern-node kind set UNSUPPORTED (R161). -/
def State.countForeign (s : State) (kind : BitVec 5) : State :=
  let t := s.bump .foreignNotices
  if kind ∈ stationKinds then t else t.setSticky .unsupported

/-- FOREIGN_NOTICE: the sender tests of R160 and R161 (log 26). -/
def execForeignNotice (kind sender : BitVec 5) (s : State) : Host.Outcome State Fault Refusal :=
  .next (s.heard fun t =>
    if sender.toNat = t.ctl.station.toNat then t.clash
    else if isForeign kind sender then t.countForeign kind
    else t)

/-! ### The transmitter -/

/-- The transmitter may offer: QUIET, the guard OK, and the line idle for 3 bit times with no start mark
heard since (R150, R157, log 17). -/
def State.mayStart (s : State) : Bool :=
  s.line.sending.isNone && !s.line.guardCut && s.line.receiver == .idle &&
  decide (Config.idleNeeded ≤ s.line.idleTime)

/-- TRANSMIT_START: the head of the list is offered and its start mark sent (R157). -/
def execTransmitStart (s : State) : Host.Outcome State Fault Refusal :=
  match s.line.list with
  | [] => .next s
  | n :: _ =>
    if s.mayStart then
      .next (s.setLine { s.line with
        sending := some n, receiver := .receiving, idleTime := 0, driven := 0 })
    else .next s

/-- The notice being sent leaves the list, and the transmitter is QUIET (R157). -/
def Line.drop (l : Line) (n : Notice) : Line :=
  { l with list := l.list.erase n, sending := none, off := 0 }

/-- The carrier unit is told of the send of an own TAKE (R135, R157). -/
def State.toldSent (s : State) (n : Notice) : State :=
  match n with
  | .take pass c => s.takeSent c pass
  | _ => s

/-- The carrier unit is told of the loss of an own TAKE (R135, R157). -/
def State.toldLost (s : State) (n : Notice) : State :=
  match n with
  | .take pass c => s.loseTake c pass
  | _ => s

/-- NOTICE_SENT: the notice leaves the list, and its block is told of the send (R157, R160). -/
def execNoticeSent (s : State) : Host.Outcome State Fault Refusal :=
  match s.line.sending with
  | none => .next s
  | some n => .next ((s.setLine (s.line.drop n)).endMark.toldSent n)

/-- The transmitter stops driving and keeps its notice in the list (R154, R155, R157). -/
def State.standBack (s : State) : State :=
  s.setLine { s.line with sending := none, off := 0 }

/-- ARBITRATION_LOST (R154, R157). -/
def execArbitrationLost (s : State) : Host.Outcome State Fault Refusal :=
  match s.line.sending with
  | none => .next s
  | some _ => .next s.standBack

/-- SEND_COLLISION (R155, R157). -/
def execSendCollision (s : State) : Host.Outcome State Fault Refusal :=
  match s.line.sending with
  | none => .next s
  | some _ => .next (s.standBack.bump .sendCollisions)

/-! ### The guard -/

/-- GUARD_CUT: a driver request has lasted 80 microseconds; the notice is lost, and GUARD CUT is a level
stop cause. The receiver goes on receiving: what was sent reaches it as a damaged notice (R157, R164,
log 6). -/
def execGuardCut (s : State) : Host.Outcome State Fault Refusal :=
  match s.line.sending with
  | none => .next s
  | some n =>
    let t := s.setLine { s.line.drop n with guardCut := true, driven := Config.guardLimit }
    .next (((t.bump .guardCuts).raise .guardCut).toldLost n)

/-- GUARD_RETURN: the drive request has been off for 2 ms (R165). -/
def execGuardReturn (s : State) : Host.Outcome State Fault Refusal :=
  if s.line.guardCut ∧ s.line.sending = none then
    .next (s.setLine { s.line with guardCut := false, off := Config.guardRelease })
  else .next s

/-! ### Notices that are only heard -/

/-- REPORT from a peer: not applied and not counted (R163). -/
def execReport (sender : StationNo) (_body : BitVec 176) (s : State) :
    Host.Outcome State Fault Refusal :=
  .next (s.fromPeer sender fun t => t)

/-- STATUS from a peer: not applied and not counted (R163). -/
def execStatus (sender : StationNo) (_body : BitVec 256) (s : State) :
    Host.Outcome State Fault Refusal :=
  .next (s.fromPeer sender fun t => t)

/-- The line interface's part of a course reset (R158). -/
def State.resetLine (s : State) : State := s.setLine { s.line with list := [] }

end Sys2Proof.Machine
end

