-- ==== Sys2Proof/Machine/Status.lean ====
section
/-! DEFINITION. The STATUS pages: bytes 2 to 31 of each part, laid out by R189 to R191. -/

namespace Sys2Proof.Machine

/-! ### Bytes -/

/-- A byte of a number below 256. -/
def byteOf (n : Nat) : Byte := BitVec.ofNat 8 n

/-- A field of two bytes, most significant byte first (R152). -/
def bytes2 (n : Nat) : List Byte := [byteOf (n / 256), byteOf n]

/-- A signed field of two bytes, in two's complement (R152). -/
def signed2 (x : Int) : List Byte := bytes2 (BitVec.ofInt 16 x).toNat

/-- A signed field of three bytes, in two's complement (R152). -/
def signed3 (x : Int) : List Byte :=
  let n := (BitVec.ofInt 24 x).toNat
  [byteOf (n / 65536), byteOf (n / 256), byteOf n]

/-- A list brought to `k` bytes: those not named are sent as 0 (R188). -/
def padTo (k : Nat) (l : List Byte) : List Byte := (l ++ List.replicate k 0).take k

/-- One bit of a byte. -/
def bitAt (b : Bool) (k : Nat) : Nat := if b then 2 ^ k else 0

/-! ### Codes -/

/-- The station state's code (R189). -/
def Mode.code : Mode → Nat
  | .setup => 0
  | .ready _ => 1
  | .run _ => 2

/-- The STANDBY row status's code (R189). -/
def standbyCode : Option Standby → Nat
  | none => 0
  | some b => match b.status with
    | .waiting => 1
    | .primed => 2

/-- A height's code on the height-code lines (9.9) and in STATUS (R189). -/
def Height.code : Height → Nat
  | .low => 0
  | .mid => 1
  | .high => 2
  | .top => 3

/-- The head height's code, 4 for UNKNOWN (R189). -/
def heightCodeOf : Option Height → Nat
  | some h => h.code
  | none => 4

/-- The direction's code (R189). -/
def Tracker.code : Tracker → Nat
  | .unknown _ _ => 0
  | .right _ => 1
  | .left _ => 2

/-- The last refusal reason's code, 0 for none (R189). -/
def refusalCode : Option RefusalReason → Nat
  | none => 0
  | some .undefinedCode => 1
  | some .queueFull => 2
  | some .rackingRange => 3
  | some .roleNotAllowed => 4
  | some .actionNotAllowed => 5
  | some .noCarrierPin => 6
  | some .noClaimPage => 7

/-- The pin state's code (R191). -/
def Pin.code : Pin → Nat
  | .released => 0
  | .engaging _ _ _ _ => 1
  | .engaged _ _ => 2
  | .releasing _ _ _ _ => 3

/-! ### Page 0 -/

/-- The course history as a byte: bit 0 the newest verdict, 1 unclean (R189). -/
def historyByte (h : Vector Bool 8) : Nat :=
  bitAt h[0] 0 + bitAt h[1] 1 + bitAt h[2] 2 + bitAt h[3] 3 +
  bitAt h[4] 4 + bitAt h[5] 5 + bitAt h[6] 6 + bitAt h[7] 7

/-- STATUS page 0 (R189). DESIGN CHOICE: the bits of its bytes that have no name are 0 (log 21). -/
def State.page0 (s : State) : List Byte :=
  padTo 30 <|
    [byteOf (64 * s.ctl.mode.code + bitAt s.course.active.isSome 5 + 8 * standbyCode s.course.standby +
       bitAt s.pos.referenced 2 + bitAt s.line.degraded 1 + bitAt s.line.guardCut 0),
     byteOf (32 * heightCodeOf s.head.height + bitAt s.head.disabled 4 + bitAt s.head.railGood 3 +
       2 * s.pos.tracker.code + bitAt s.ctl.latch 0),
     byteOf (s.ctl.station.toNat + bitAt s.ctl.bedBack 4 + bitAt s.ctl.owner 5)] ++
    bytes2 s.ctl.sticky.toNat ++
    bytes2 s.ctl.causes.toNat ++
    [byteOf (bitAt s.head.disabled 0 + bitAt s.head.railCause 1 + bitAt s.line.guardCut 2)] ++
    bytes2 s.course.flags.toNat ++
    [byteOf (historyByte s.ctl.history),
     byteOf (refusalCode s.course.lastRefusal),
     byteOf (s.ctl.firstBad.getD 0),
     byteOf (16 * s.course.queue.length + bitAt s.course.expected.isSome 3 + s.rows.freeCount)] ++
    bytes2 (s.course.expected.getD 0).toNat ++
    signed3 s.pos.c

/-! ### Page 1 -/

/-- Part `k` of STATUS page 1: fifteen counters of the forty-one, in order (R190). -/
def State.page1 (s : State) (k : Nat) : List Byte :=
  padTo 30 (((s.counts.toList.drop (15 * k)).take 15).flatMap bytes2)

/-! ### Page 2 -/

/-- A record of the carrier table in six bytes (R191). DESIGN CHOICE: bit 4 of byte 0 and bits 7 to 4 of byte 3,
which have no name, are 0, as are the two station fields without a station (log 21). -/
def recordBytes (r : CarrierRec) : List Byte :=
  (match r.place with
    | .unknown => [byteOf (bitAt r.reserved.isSome 5), 0, 0]
    | .parked x => byteOf (64 + bitAt r.reserved.isSome 5) :: signed2 x
    | .held q => [byteOf (128 + bitAt r.reserved.isSome 5 + q.toNat), 0, 0]) ++
  (match r.reserved with
    | some v => byteOf v.station.toNat :: bytes2 v.pass.toNat
    | none => [0, 0, 0])

/-- The pin's byte (R191). DESIGN CHOICE: bit 5, which has no name, is 0, and so is the carrier of a pin that
holds none (log 21). -/
def pinByte (p : Pin) : Byte :=
  byteOf (64 * p.code + match p.carrierOn with
    | some c => 16 + c.val
    | none => 0)

/-- Part `k` of STATUS page 2: four records and the pin in byte 26 (R191). -/
def State.page2 (s : State) (k : Nat) : List Byte :=
  padTo 30 (((s.carr.table.toList.drop (4 * k)).take 4).flatMap recordBytes ++
    [pinByte s.carr.pin])

end Sys2Proof.Machine
end

