-- ==== Sys2Proof/Machine/Control.lean ====
section
/-! DEFINITION. Station control: the state filter, SETUP, the two resets, CLEAR and QUERY (09). -/

namespace Sys2Proof.Machine

/-! ### SETUP -/

/-- A refused SETUP (R179). -/
def State.refuseSetup (s : State) (field : Nat) : State :=
  (s.setCtl { s.ctl with firstBad := some field }).setSticky .setupRefused

/-- An accepted SETUP: the station is READY, the indices are formed, the health windows start from GOOD,
and park needles above W+63 are clamped (R128, R166, R178). -/
def State.acceptSetup (s : State) (r : SetupRec) : State :=
  let s1 := s.setCtl { s.ctl with mode := .ready r }
  let s2 := s1.reindex
  let s3 := s2.setLine { s2.line with degraded := false, windowErrors := 0, cleanWindows := 0 }
  s3.setCarr { s3.carr with table := mapTable (clampRecord r.width) s3.carr.table }

/-- A SETUP taken by station control: checked and accepted or refused in SETUP, late otherwise (R178 to
R180). -/
def State.takeSetup (s : State) (b : SetupBody) : State :=
  match s.ctl.mode with
  | .setup =>
    match SetupBody.firstBad b s.ctl.owner with
    | some n => s.refuseSetup n
    | none => s.acceptSetup (SetupBody.record b s.ctl.owner)
  | _ => s.setSticky .lateSetup

/-! ### Course reset and hard reset -/

/-- The row store's part of a course reset (R40). -/
def State.resetRows (s : State) : State :=
  s.setRows { slots := Vector.replicate 4 none, pinned := none }

/-- The decision unit's and the claim unit's parts of a course reset (R86, R99). -/
def State.resetClaims (s : State) : State :=
  (s.setDec { outcomes := [], float := 0 }).setClaim { page0 := none, page1 := none, run := none }

/-- The position unit's part of a course reset: no frontier, racking 0 and the indices formed with it in
READY and RUN (R14, R20). -/
def State.resetPosition (s : State) : State :=
  (s.setPos { s.pos with frontier := none, racking := 0 }).reindex

/-- Station control's part of a course reset: all eight verdicts clean (R182). -/
def State.resetHistory (s : State) : State :=
  s.setCtl { s.ctl with history := Vector.replicate 8 false }

/-- A course reset: every block makes its own part, the line's before the carrier unit's (R146, R182). -/
def State.courseReset (s : State) : State :=
  (((((((s.resetCourse.resetRows).resetClaims).resetHead).resetLine).resetCarriers).resetPosition).resetHistory)

/-- The station after a hard reset; the commands that wait stay (R181). -/
def State.hardReset (s : State) (straps : BitVec 6) (a b rail : Bool) : State :=
  (State.afterReset straps a b rail).setPending s.pending

/-! ### CLEAR -/

/-- Clear-stop: the latch becomes clear unless a level cause holds (R186). -/
def State.clearLatch (s : State) : State :=
  if s.levelHolds then s else s.setCtl { s.ctl with latch := false }

/-- Clear-sticky: the sticky flags, the last refusal reason, the first bad setup field, and the recorded
causes but those of level causes that hold (R186). -/
def State.clearFlags (s : State) : State :=
  (s.setCtl { s.ctl with
    sticky := 0, firstBad := none, causes := s.ctl.causes &&& s.levelCauses }).setCourse
      { s.course with lastRefusal := none }

/-! ### QUERY -/

/-- The clear flag of a QUERY: any value other than 0 is set (R174). -/
def isSet (x : Byte) : Bool := x != 0

/-- The parts of a page are placed in the order of their numbers (R188). -/
def offerParts (page : Nat) : Nat → List (List Byte) → State → State
  | _, [], s => s
  | k, b :: bs, s => offerParts page (k + 1) bs (s.offer (.status page k b))

/-- A QUERY of page 0 (R188, R189). -/
def State.answerPage0 (s : State) : State := offerParts 0 0 [s.page0] s

/-- A QUERY of page 1: the snapshot is taken, the counters are zeroed if the clear flag is set, and the
parts are placed (R188, R190). -/
def State.answerPage1 (s : State) (clear : Bool) : State :=
  let parts := [s.page1 0, s.page1 1, s.page1 2]
  offerParts 1 0 parts (if clear then s.setCounts (Vector.replicate 41 0) else s)

/-- A QUERY of page 2 (R188, R191). -/
def State.answerPage2 (s : State) : State :=
  offerParts 2 0 [s.page2 0, s.page2 1, s.page2 2, s.page2 3] s

/-! ### The pattern node's notices -/

/-- An addressed notice: applied by a station that is its target, ignored without counting by any other
(R162). -/
def State.ifAddressed (s : State) (target : BitVec 5) (f : State → State) : State :=
  s.heard fun t => if t.addressed target then f t else t

/-- A notice picked out by the station mask: ignored without counting with the flag clear (R25, R32). -/
def State.ifMasked (s : State) (mask : Flags16) (f : State → State) : State :=
  s.heard fun t => if t.inMask mask then f t else t

/-- The state filter: in SETUP the notice is dropped and counted as early (R177). -/
def State.filtered (s : State) (f : State → State) : State :=
  match s.ctl.mode with
  | .setup => s.bump .earlyNotices
  | _ => f s

/-- SPAN (R25 to R31). -/
def execSpan (body : SpanBody) (s : State) : Host.Outcome State Fault Refusal :=
  .next (s.ifMasked body.mask fun t => t.filtered fun u => u.takeSpan body)

/-- CLOSE (R32). -/
def execClose (body : CloseBody) (s : State) : Host.Outcome State Fault Refusal :=
  .next (s.ifMasked body.mask fun t => t.filtered fun u => u.takeClose body)

/-- ORDER (R41 to R45). -/
def execOrder (target : BitVec 5) (body : OrderBody) (s : State) : Host.Outcome State Fault Refusal :=
  .next (s.ifAddressed target fun t => t.filtered fun u => u.takeOrder body)

/-- BACKING (R55). -/
def execBacking (target : BitVec 5) (body : BackingBody) (s : State) :
    Host.Outcome State Fault Refusal :=
  .next (s.ifAddressed target fun t => t.filtered fun u => u.takeBacking body)

/-- PLACE, in every station state (R128, R129). -/
def execPlace (carrier : Byte) (position : Word16) (s : State) : Host.Outcome State Fault Refusal :=
  .next (s.heard fun t => t.withCarrier carrier fun c => t.takePlace c position)

/-- SETUP (R178 to R180). -/
def execSetup (target : BitVec 5) (body : SetupBody) (s : State) : Host.Outcome State Fault Refusal :=
  .next (s.ifAddressed target fun t => t.takeSetup body)

/-- RESET: a course reset (R182). -/
def execReset (target : BitVec 5) (s : State) : Host.Outcome State Fault Refusal :=
  .next (s.ifAddressed target fun t => t.courseReset)

/-- CLEAR_STOP (R186). -/
def execClearStop (target : BitVec 5) (s : State) : Host.Outcome State Fault Refusal :=
  .next (s.ifAddressed target fun t => t.clearLatch)

/-- CLEAR_STICKY (R186). -/
def execClearSticky (target : BitVec 5) (s : State) : Host.Outcome State Fault Refusal :=
  .next (s.ifAddressed target fun t => t.clearFlags)

/-- QUERY_PAGE_0; the clear flag has no effect (R188). -/
def execQueryPage0 (target : BitVec 5) (_clear : Byte) (s : State) :
    Host.Outcome State Fault Refusal :=
  .next (s.ifAddressed target fun t => t.answerPage0)

/-- QUERY_PAGE_1 (R188, R190). -/
def execQueryPage1 (target : BitVec 5) (clear : Byte) (s : State) :
    Host.Outcome State Fault Refusal :=
  .next (s.ifAddressed target fun t => t.answerPage1 (isSet clear))

/-- QUERY_PAGE_2; the clear flag has no effect (R188). -/
def execQueryPage2 (target : BitVec 5) (_clear : Byte) (s : State) :
    Host.Outcome State Fault Refusal :=
  .next (s.ifAddressed target fun t => t.answerPage2)

/-- QUERY_UNKNOWN_PAGE: not answered (R188). -/
def execQueryUnknownPage (target : BitVec 5) (_page _clear : Byte) (s : State) :
    Host.Outcome State Fault Refusal :=
  .next (s.ifAddressed target fun t => t.setSticky .unsupported)

/-! ### The peers' notices -/

/-- TAKE (R128, R130, R135). -/
def execTake (sender : StationNo) (pass : Word16) (carrier : Byte) (s : State) :
    Host.Outcome State Fault Refusal :=
  .next (s.fromPeer sender fun t => t.withCarrier carrier fun c => t.takeTake sender pass c)

/-- PICK (R128, R131, R143). -/
def execPick (sender : StationNo) (pass : Word16) (carrier : Byte) (s : State) :
    Host.Outcome State Fault Refusal :=
  .next (s.fromPeer sender fun t => t.withCarrier carrier fun c => t.takePick sender pass c)

/-- PARK (R128, R132). -/
def execPark (sender : StationNo) (pass : Word16) (carrier : Byte) (position : Word16) (s : State) :
    Host.Outcome State Fault Refusal :=
  .next (s.fromPeer sender fun t => t.withCarrier carrier fun c => t.takePark pass c position)

/-- CLAIM (R100 to R104). -/
def execClaim (sender : StationNo) (body : ClaimBody) (s : State) : Host.Outcome State Fault Refusal :=
  .next (s.fromPeer sender fun t => t.takeClaim sender body)

/-- HARD_RESET (R181). -/
def execHardReset (straps : BitVec 6) (a b rail : Bool) (s : State) :
    Host.Outcome State Fault Refusal :=
  .next (s.hardReset straps a b rail)

end Sys2Proof.Machine
end

