-- ==== Sys2Proof/Machine/Dispatch.lean ====
section
/-! DEFINITION. One arm per command: the meaning of each. -/

namespace Sys2Proof.Machine

def exec (i : Instr) (s : State) : Host.Outcome State Fault Refusal :=
  match i with
  | .encoderEdge a b => Sys2Proof.Machine.execEncoderEdge a b s
  | .referenceMark => Sys2Proof.Machine.execReferenceMark s
  | .headConfirm => Sys2Proof.Machine.execHeadConfirm s
  | .fireDeadline => Sys2Proof.Machine.execFireDeadline s
  | .railInputChange level => Sys2Proof.Machine.execRailInputChange level s
  | .railFilterExpiry => Sys2Proof.Machine.execRailFilterExpiry s
  | .pinConfirm => Sys2Proof.Machine.execPinConfirm s
  | .engagementDeadline => Sys2Proof.Machine.execEngagementDeadline s
  | .releaseDeadline => Sys2Proof.Machine.execReleaseDeadline s
  | .span body => Sys2Proof.Machine.execSpan body s
  | .close body => Sys2Proof.Machine.execClose body s
  | .order target body => Sys2Proof.Machine.execOrder target body s
  | .backing target body => Sys2Proof.Machine.execBacking target body s
  | .place carrier position => Sys2Proof.Machine.execPlace carrier position s
  | .take sender pass carrier => Sys2Proof.Machine.execTake sender pass carrier s
  | .pick sender pass carrier => Sys2Proof.Machine.execPick sender pass carrier s
  | .park sender pass carrier position => Sys2Proof.Machine.execPark sender pass carrier position s
  | .claim sender body => Sys2Proof.Machine.execClaim sender body s
  | .report sender body => Sys2Proof.Machine.execReport sender body s
  | .status sender body => Sys2Proof.Machine.execStatus sender body s
  | .setup target body => Sys2Proof.Machine.execSetup target body s
  | .reset target => Sys2Proof.Machine.execReset target s
  | .clearStop target => Sys2Proof.Machine.execClearStop target s
  | .clearSticky target => Sys2Proof.Machine.execClearSticky target s
  | .queryPage0 target clear => Sys2Proof.Machine.execQueryPage0 target clear s
  | .queryPage1 target clear => Sys2Proof.Machine.execQueryPage1 target clear s
  | .queryPage2 target clear => Sys2Proof.Machine.execQueryPage2 target clear s
  | .queryUnknownPage target page clear => Sys2Proof.Machine.execQueryUnknownPage target page clear s
  | .lineError kind => Sys2Proof.Machine.execLineError kind s
  | .symbolError => Sys2Proof.Machine.execSymbolError s
  | .foreignNotice kind sender => Sys2Proof.Machine.execForeignNotice kind sender s
  | .addressClash kind => Sys2Proof.Machine.execAddressClash kind s
  | .receiverIdle => Sys2Proof.Machine.execReceiverIdle s
  | .transmitStart => Sys2Proof.Machine.execTransmitStart s
  | .noticeSent => Sys2Proof.Machine.execNoticeSent s
  | .arbitrationLost => Sys2Proof.Machine.execArbitrationLost s
  | .sendCollision => Sys2Proof.Machine.execSendCollision s
  | .guardCut => Sys2Proof.Machine.execGuardCut s
  | .guardReturn => Sys2Proof.Machine.execGuardReturn s
  | .lineWindowEnd => Sys2Proof.Machine.execLineWindowEnd s
  | .hardReset straps a b rail => Sys2Proof.Machine.execHardReset straps a b rail s
  | .startMark => Sys2Proof.Machine.execStartMark s

end Sys2Proof.Machine
end

