-- ==== Sys2Proof/Machine/Frames.lean ====
section
/-! DEFINITION. The frames of the carriage line: cells and arbitration (8.1, 8.3), the notice and its
check (8.2), the body layouts (8.9), reception from the cells (8.1), and the commands a notice is (8.5). The
queue of commands is filled from outside; `hearCells` is the way in for one who has the line (log 20). -/

namespace Sys2Proof.Machine

/-! ### Bits -/

/-- The low `k` bits of a number, most significant first (R152). -/
def bitsOf : Nat → Nat → List Bool
  | 0, _ => []
  | k + 1, n => n.testBit k :: bitsOf k n

/-- The number of a list of bits, most significant first. -/
def numberOf (l : List Bool) : Nat := l.foldl (fun n b => 2 * n + b.toNat) 0

/-- The bits of a list of bytes in the order in which they are sent. -/
def bitsOfBytes (l : List Byte) : List Bool := l.flatMap fun x => bitsOf 8 x.toNat

/-- The first `k` bytes of a list of bits. -/
def bytesOf : Nat → List Bool → List Byte
  | 0, _ => []
  | k + 1, l => BitVec.ofNat 8 (numberOf (l.take 8)) :: bytesOf k (l.drop 8)

/-! ### Cells and arbitration -/

/-- A half of a cell: dominant or recessive (R149). -/
inductive Half
  | dominant | recessive
  deriving DecidableEq, Repr

/-- The cell of a bit: 0 is dominant first, 1 recessive first (R149). -/
def cellOf (b : Bool) : Half × Half :=
  if b then (.recessive, .dominant) else (.dominant, .recessive)

/-- The start mark and the end mark (R150). -/
def startMark : Half × Half := (.dominant, .dominant)

/-- The cell recessive in both halves (R150). -/
def endMark : Half × Half := (.recessive, .recessive)

/-- The line is dominant in a half that any node drives (R149). -/
def wired (x y : Half) : Half := if x = .dominant ∨ y = .dominant then .dominant else .recessive

/-- The halves of a notice with its marks (R149, R150). -/
def halvesOf (bits : List Bool) : List Half :=
  [startMark.1, startMark.2] ++ bits.flatMap (fun b => [(cellOf b).1, (cellOf b).2]) ++
    [endMark.1, endMark.2]

/-- The place of the half in which a node that sends `own` stands back: the first it sends recessive and
hears dominant; none when it sends to the end (R154, R155). -/
def standsBackAt : List Half → List Half → Option Nat
  | [], _ => none
  | _, [] => none
  | x :: xs, y :: ys =>
    if x = .recessive ∧ wired x y = .dominant then some 0
    else (standsBackAt xs ys).map (· + 1)

/-! ### The notice -/

/-- One bit shifted through the check register, generator x^16 + x^12 + x^5 + 1 (R153). -/
def checkStep (r : BitVec 16) (b : Bool) : BitVec 16 :=
  (r <<< 1) ^^^ (if r.msb != b then 0x1021 else 0)

/-- The check of a stream of bits, the register preset to all ones (R153). -/
def checkOf (bits : List Bool) : BitVec 16 := bits.foldl checkStep 0xFFFF

/-- The head, target and body of a frame, with the check after them (R152, R153). -/
def frameOf (kind sender : BitVec 5) (rest : List Byte) : List Bool :=
  let covered := bitsOf 2 (kind.toNat / 8) ++ bitsOf 5 kind.toNat ++ bitsOf 5 sender.toNat ++
    bitsOfBytes rest
  covered ++ bitsOf 16 (checkOf covered).toNat

/-- What the table of kinds gives a kind: whether it is addressed, and its body length (R169). -/
def kindInfo (kind : BitVec 5) : Option (Bool × Nat) :=
  match kind.toNat with
  | 0x00 => some (false, 3)
  | 0x01 => some (false, 3)
  | 0x02 => some (false, 5)
  | 0x03 => some (false, 3)
  | 0x04 => some (true, 0)
  | 0x08 => some (false, 8)
  | 0x10 => some (false, 9)
  | 0x11 => some (false, 6)
  | 0x12 => some (true, 18)
  | 0x13 => some (true, 9)
  | 0x18 => some (false, 22)
  | 0x19 => some (false, 32)
  | 0x1A => some (true, 2)
  | 0x1B => some (true, 26)
  | 0x1C => some (true, 1)
  | _ => none

/-- The bytes between head and check that a kind has: its body, and the target of an addressed kind
(R159). -/
def bytesOfKind (kind : BitVec 5) : Option Nat :=
  (kindInfo kind).map fun x => if x.1 then x.2 + 1 else x.2

/-! ### The station's own notices -/

/-- A result's code in a CLAIM (R170). -/
def NeedleResult.code : NeedleResult → Nat
  | .none => 0
  | .loop => 1
  | .tuck => 2
  | .top => 3
  | .failed => 4

/-- A position as it is sent, -32,768 for unknown (R174). -/
def positionBytes (x : Option Int) : List Byte := signed2 (x.getD (-32768))

/-- An end kind's code in a REPORT (R172). -/
def EndKind.code : EndKind → Nat
  | .complete => 0
  | .cut => 1
  | .idle => 2

/-- The body of a REPORT (R172). -/
def reportBytes (r : Report) : List Byte :=
  bytes2 r.pass.toNat ++ bytes2 r.row.toNat ++
  bytes2 (4096 * r.freeOrders + 1024 * r.kind.code + r.flags.toNat) ++
  bytes2 (8192 * r.freeSlots + r.tally.decided) ++
  bytes2 r.tally.nones ++ bytes2 r.tally.loops ++ bytes2 r.tally.tucks ++
  bytes2 r.tally.tops ++ bytes2 r.tally.failed ++ bytes2 r.tally.untracked ++
  [byteOf (min r.doubles Config.reportPageMax), byteOf (min r.lateDoubles Config.reportPageMax)]

/-- The kind code of a notice (R169). -/
def Notice.kind : Notice → BitVec 5
  | .take _ _ => 0x00
  | .pick _ _ => 0x01
  | .park _ _ _ => 0x02
  | .claim _ _ _ _ _ => 0x08
  | .report _ => 0x18
  | .status _ _ _ => 0x19

/-- The body of a notice (R170, R172, R174). -/
def Notice.body : Notice → List Byte
  | .take pass c => bytes2 pass.toNat ++ [byteOf c.val]
  | .pick pass c => bytes2 pass.toNat ++ [byteOf c.val]
  | .park pass c x => bytes2 pass.toNat ++ [byteOf c.val] ++ positionBytes x
  | .claim pass row first count x =>
    bytes2 pass.toNat ++ bytes2 row.toNat ++ bytes2 first ++ [byteOf count, byteOf x.code]
  | .report r => reportBytes r
  | .status page part bytes => [byteOf page, byteOf part] ++ bytes

/-- The bits of a notice between its marks, sent by a station (R152). -/
def Notice.bits (station : StationNo) (n : Notice) : List Bool :=
  frameOf n.kind (station.setWidth 5) n.body

/-! ### The bodies heard -/

/-- Byte `i` of a body. -/
def byteAt (l : List Byte) (i : Nat) : Byte := l.getD i 0

/-- The two-byte field at byte `i`, most significant byte first (R152). -/
def word2 (l : List Byte) (i : Nat) : Word16 := byteAt l i ++ byteAt l (i + 1)

/-- The three-byte field at byte `i`. -/
def word3 (l : List Byte) (i : Nat) : BitVec 24 := byteAt l i ++ byteAt l (i + 1) ++ byteAt l (i + 2)

/-- The number of a list of bytes, most significant byte first. -/
def numberOfBytes (l : List Byte) : Nat := l.foldl (fun n x => 256 * n + x.toNat) 0

/-- The body of a SPAN (R174). -/
def readSpan (l : List Byte) : SpanBody :=
  { row := word2 l 0, mask := word2 l 2, first := word2 l 4, length := word2 l 6, colour := byteAt l 8 }

/-- The body of a CLOSE (R174). -/
def readClose (l : List Byte) : CloseBody := { row := word2 l 0, mask := word2 l 2, count := word2 l 4 }

/-- The body of an ORDER (R171). -/
def readOrder (l : List Byte) : OrderBody where
  pass := word2 l 0
  row := word2 l 2
  courseType := (byteAt l 4).extractLsb' 6 2
  direction := (byteAt l 4).extractLsb' 4 2
  role := (byteAt l 4).extractLsb' 1 3
  selected := (byteAt l 5).extractLsb' 4 4
  unselected := (byteAt l 5).extractLsb' 0 4
  colours := word2 l 6
  listen := word2 l 8
  carrier := byteAt l 10
  source := byteAt l 11
  announce := (byteAt l 12).getLsbD 7
  floatTie := (byteAt l 12).getLsbD 6
  step := (byteAt l 12).extractLsb' 0 5
  winFirst := word2 l 13
  winLast := word2 l 15
  racking := byteAt l 17

/-- The body of a BACKING (R174). -/
def readBacking (l : List Byte) : BackingBody :=
  { length := byteAt l 0, entries := BitVec.ofNat 64 (numberOfBytes ((l.drop 1).take 8)) }

/-- The body of a SETUP (R173). -/
def readSetup (l : List Byte) : SetupBody where
  width := word2 l 0
  pitch := word2 l 2
  kref := word3 l 4
  offset := word3 l 7
  phase := word2 l 10
  anticipation := word2 l 12
  nearest := (byteAt l 14).getLsbD 0
  trust := (byteAt l 14).getLsbD 1
  useRow := (byteAt l 14).getLsbD 2
  fireDeadline := byteAt l 15
  faultLimit := byteAt l 16
  floatLimit := byteAt l 17
  runLimit := byteAt l 18
  tolerance := byteAt l 19
  errorThreshold := byteAt l 20
  pinOffset := word3 l 21
  drop := byteAt l 24
  unclean := byteAt l 25

/-- The body of a CLAIM (R170). -/
def readClaim (l : List Byte) : ClaimBody :=
  { pass := word2 l 0, row := word2 l 2, first := word2 l 4, count := byteAt l 6, result := byteAt l 7 }

/-- A QUERY is a row of its own for each page (R174, R188). -/
def readQuery (target : BitVec 5) (l : List Byte) : Instr :=
  if byteAt l 0 = 0 then .queryPage0 target (byteAt l 1)
  else if byteAt l 0 = 1 then .queryPage1 target (byteAt l 1)
  else if byteAt l 0 = 2 then .queryPage2 target (byteAt l 1)
  else .queryUnknownPage target (byteAt l 0) (byteAt l 1)

/-- A target that names no station (R162). -/
def nowhere : BitVec 5 := 16

/-- A CLEAR is a row of its own for each mark it carries. With neither mark it changes nothing: it is the
CLEAR_STOP of a target that names no station, of which the receiver takes the end mark alone (R162, R174,
R186, log 8). -/
def readClear (target : BitVec 5) (l : List Byte) : List Instr :=
  match (byteAt l 0).getLsbD 0, (byteAt l 0).getLsbD 1 with
  | true, true => [.clearStop target, .clearSticky target]
  | true, false => [.clearStop target]
  | false, true => [.clearSticky target]
  | false, false => [.clearStop nowhere]

/-- The commands a good notice of a kind is, from its bytes between head and check (R162, R163, R174). -/
def readNotice (kind sender : BitVec 5) (rest : List Byte) : List Instr :=
  let from_ : StationNo := sender.setWidth 4
  let target : BitVec 5 := (byteAt rest 0).setWidth 5
  let body := rest.drop 1
  match kind.toNat with
  | 0x00 => [.take from_ (word2 rest 0) (byteAt rest 2)]
  | 0x01 => [.pick from_ (word2 rest 0) (byteAt rest 2)]
  | 0x02 => [.park from_ (word2 rest 0) (byteAt rest 2) (word2 rest 3)]
  | 0x03 => [.place (byteAt rest 0) (word2 rest 1)]
  | 0x04 => [.reset target]
  | 0x08 => [.claim from_ (readClaim rest)]
  | 0x10 => [.span (readSpan rest)]
  | 0x11 => [.close (readClose rest)]
  | 0x12 => [.order target (readOrder body)]
  | 0x13 => [.backing target (readBacking body)]
  | 0x18 => [.report from_ (BitVec.ofNat 176 (numberOfBytes rest))]
  | 0x19 => [.status from_ (BitVec.ofNat 256 (numberOfBytes rest))]
  | 0x1A => [readQuery target body]
  | 0x1B => [.setup target (readSetup body)]
  | 0x1C => readClear target body
  | _ => []

/-! ### Reception -/

/-- The check of R159 that the bits between two marks fail first; none for a good notice. -/
def failedCheck (bits : List Bool) : Option LineErrorKind :=
  let bytes := (bits.length - 28) / 8
  let kind : BitVec 5 := BitVec.ofNat 5 (numberOf ((bits.drop 2).take 5))
  if bits.length < 28 ∨ (bits.length - 28) % 8 ≠ 0 then some .length
  else if checkOf (bits.take (bits.length - 16)) ≠
      BitVec.ofNat 16 (numberOf (bits.drop (bits.length - 16))) then some .check
  else if numberOf (bits.take 2) ≠ kind.toNat / 8 then some .classCode
  else if (bytesOfKind kind).any (fun n => n != bytes) then some .bodyLength
  else none

/-- The commands the bits between two marks are at a station of this number (R159 to R163). -/
def sortNotice (station : StationNo) (bits : List Bool) : List Instr :=
  match failedCheck bits with
  | some e => [.lineError e]
  | none =>
    let kind : BitVec 5 := BitVec.ofNat 5 (numberOf ((bits.drop 2).take 5))
    let sender : BitVec 5 := BitVec.ofNat 5 (numberOf ((bits.drop 7).take 5))
    if sender.toNat = station.toNat then [.addressClash kind]
    else if isForeign kind sender then [.foreignNotice kind sender]
    else readNotice kind sender (bytesOf ((bits.length - 28) / 8) (bits.drop 12))

/-- What the station hears at an end mark, given the bits before it: nothing unless RECEIVING (R151), the
send of its own notice (R160), or the commands of the notice. -/
def hear (s : State) (bits : List Bool) : List Instr :=
  if s.line.receiver ≠ .receiving then []
  else match s.line.sending with
    | some n => if bits = n.bits s.ctl.station then [.noticeSent] else sortNotice s.ctl.station bits
    | none => sortNotice s.ctl.station bits

/-- How far a reception has come: the bits gathered so far, those of a whole notice at its end mark, or a
symbol error (R151). -/
inductive Reception
  | underWay (bits : List Bool)
  | ended (bits : List Bool)
  | symbolError
  deriving DecidableEq, Repr

/-- A half as it is heard; none where the level changes inside it (R151). -/
abbrev HeardHalf := Option Half

/-- The cells after a start mark, each a bit, up to the end mark or to an illegal cell (R149, R151). -/
def receive (bits : List Bool) : List (HeardHalf × HeardHalf) → Reception
  | [] => .underWay bits
  | (some .dominant, some .recessive) :: cells => receive (bits ++ [false]) cells
  | (some .recessive, some .dominant) :: cells => receive (bits ++ [true]) cells
  | (some .recessive, some .recessive) :: _ => .ended bits
  | _ :: _ => .symbolError

/-- The commands that the cells after a start mark are to a station (R151). -/
def hearCells (s : State) (cells : List (HeardHalf × HeardHalf)) : List Instr :=
  if s.line.receiver ≠ .receiving then []
  else match receive [] cells with
    | .underWay _ => []
    | .ended bits => hear s bits
    | .symbolError => [.symbolError]

end Sys2Proof.Machine
end

