-- ==== Sys2Proof/Safety.lean ====
section
/-! DEFINITION. The terms claims about the station use: the parts of the state and what each command may
change of them, and the invariants the rules give the blocks. Nothing stops the station, so a run is safe
when every step keeps these invariants. -/

namespace Sys2Proof.Machine

/-! ### Frames -/

/-- The parts of the state, field by field. `straps` is the three straps (R175), `latch` and `causes` are
the two halves of R185 and R184, `counts` the forty-one status counters. -/
inductive Part
  | posC | posPhase | posTracker | posReferenced | posIndices | posRacking | posFrontier
  | rowSlots | rowPinned
  | orderQueue | standby | active | expected | rowChoice | cleanRead | backingTable | backingPhase
  | backingShadow | courseFlags | tally | lastRefusal
  | outcomes | float | pages | openRun
  | headHeight | headCode | headFire | headWaiting | headFaults | headDisabled
  | railGood | railLevel | railHeld | railCause
  | carrierTable | pin | standbyTake | courseCarrier
  | transmitList | sending | receiver | idleTime | guard | guardDriven | guardOff
  | health | windowErrors | cleanWindows
  | straps | mode | sticky | causes | latch | firstBad | history
  | counts | pending
  deriving DecidableEq, Repr

/-- The part is the same in both states. -/
def Part.same (s t : State) : Part → Prop
  | .posC => t.pos.c = s.pos.c
  | .posPhase => t.pos.phaseA = s.pos.phaseA ∧ t.pos.phaseB = s.pos.phaseB
  | .posTracker => t.pos.tracker = s.pos.tracker
  | .posReferenced => t.pos.referenced = s.pos.referenced
  | .posIndices => t.pos.idx = s.pos.idx
  | .posRacking => t.pos.racking = s.pos.racking
  | .posFrontier => t.pos.frontier = s.pos.frontier
  | .rowSlots => t.rows.slots = s.rows.slots
  | .rowPinned => t.rows.pinned = s.rows.pinned
  | .orderQueue => t.course.queue = s.course.queue
  | .standby => t.course.standby = s.course.standby
  | .active => t.course.active = s.course.active
  | .expected => t.course.expected = s.course.expected
  | .rowChoice => t.course.choice = s.course.choice
  | .cleanRead => t.course.cleanRead = s.course.cleanRead
  | .backingTable => t.course.table = s.course.table
  | .backingPhase => t.course.phase = s.course.phase
  | .backingShadow => t.course.shadow = s.course.shadow
  | .courseFlags => t.course.flags = s.course.flags
  | .tally => t.course.tally = s.course.tally
  | .lastRefusal => t.course.lastRefusal = s.course.lastRefusal
  | .outcomes => t.dec.outcomes = s.dec.outcomes
  | .float => t.dec.float = s.dec.float
  | .pages => t.claim.page0 = s.claim.page0 ∧ t.claim.page1 = s.claim.page1
  | .openRun => t.claim.run = s.claim.run
  | .headHeight => t.head.height = s.head.height
  | .headCode => t.head.code = s.head.code
  | .headFire => t.head.fire = s.head.fire
  | .headWaiting => t.head.waiting = s.head.waiting
  | .headFaults => t.head.faults = s.head.faults
  | .headDisabled => t.head.disabled = s.head.disabled
  | .railGood => t.head.railGood = s.head.railGood
  | .railLevel => t.head.railLevel = s.head.railLevel
  | .railHeld => t.head.railHeld = s.head.railHeld
  | .railCause => t.head.railCause = s.head.railCause
  | .carrierTable => t.carr.table = s.carr.table
  | .pin => t.carr.pin = s.carr.pin
  | .standbyTake => t.carr.standbyTake = s.carr.standbyTake
  | .courseCarrier => t.carr.course = s.carr.course
  | .transmitList => t.line.list = s.line.list
  | .sending => t.line.sending = s.line.sending
  | .receiver => t.line.receiver = s.line.receiver
  | .idleTime => t.line.idleTime = s.line.idleTime
  | .guard => t.line.guardCut = s.line.guardCut
  | .guardDriven => t.line.driven = s.line.driven
  | .guardOff => t.line.off = s.line.off
  | .health => t.line.degraded = s.line.degraded
  | .windowErrors => t.line.windowErrors = s.line.windowErrors
  | .cleanWindows => t.line.cleanWindows = s.line.cleanWindows
  | .straps => t.ctl.station = s.ctl.station ∧ t.ctl.bedBack = s.ctl.bedBack ∧ t.ctl.owner = s.ctl.owner
  | .mode => t.ctl.mode = s.ctl.mode
  | .sticky => t.ctl.sticky = s.ctl.sticky
  | .causes => t.ctl.causes = s.ctl.causes
  | .latch => t.ctl.latch = s.ctl.latch
  | .firstBad => t.ctl.firstBad = s.ctl.firstBad
  | .history => t.ctl.history = s.ctl.history
  | .counts => t.counts = s.counts
  | .pending => t.pending = s.pending

/-- Nothing but the listed parts differs between the two states. -/
def SameExcept (l : List Part) (s t : State) : Prop := ∀ p : Part, p ∉ l → p.same s t

/-- No status counter but the listed ones differs. -/
def CountsExcept (l : List Counter) (s t : State) : Prop := ∀ k : Counter, k ∉ l → t.count k = s.count k

/-- No sticky flag but the listed ones differs. -/
def StickyExcept (l : List StickyFlag) (s t : State) : Prop :=
  ∀ f : StickyFlag, f ∉ l → t.isSticky f = s.isSticky f

/-- No recorded stop cause but the listed ones differs. -/
def CausesExcept (l : List StopCause) (s t : State) : Prop :=
  ∀ c : StopCause, c ∉ l → t.isRecorded c = s.isRecorded c

/-- No course flag but the listed ones differs. -/
def FlagsExcept (l : List CourseFlag) (s t : State) : Prop :=
  ∀ f : CourseFlag, f ∉ l → t.isCourseFlag f = s.isCourseFlag f

/-- What the end mark of a notice changes in the receiver (R150, R151). -/
def noticeParts : List Part := [.receiver, .idleTime]

/-- What an address clash changes (R160). -/
def clashParts : List Part := [.sticky, .causes, .latch]

/-- The commands that are notices on the line, good or damaged, which the receiver must hear (R151). -/
def onTheLine : Instr → Bool
  | .encoderEdge _ _ => false
  | .referenceMark => false
  | .headConfirm => false
  | .fireDeadline => false
  | .railInputChange _ => false
  | .railFilterExpiry => false
  | .pinConfirm => false
  | .engagementDeadline => false
  | .releaseDeadline => false
  | .span _ => true
  | .close _ => true
  | .order _ _ => true
  | .backing _ _ => true
  | .place _ _ => true
  | .take _ _ _ => true
  | .pick _ _ _ => true
  | .park _ _ _ _ => true
  | .claim _ _ => true
  | .report _ _ => true
  | .status _ _ => true
  | .setup _ _ => true
  | .reset _ => true
  | .clearStop _ => true
  | .clearSticky _ => true
  | .queryPage0 _ _ => true
  | .queryPage1 _ _ => true
  | .queryPage2 _ _ => true
  | .queryUnknownPage _ _ _ => true
  | .lineError _ => true
  | .symbolError => true
  | .foreignNotice _ _ => true
  | .addressClash _ => true
  | .receiverIdle => false
  | .transmitStart => false
  | .noticeSent => false
  | .arbitrationLost => false
  | .sendCollision => false
  | .guardCut => false
  | .guardReturn => false
  | .lineWindowEnd => false
  | .hardReset _ _ _ _ => false
  | .startMark => false

/-- What entries that leave the outcome list change (R80, R83, R84, R89 to R94). -/
def leaveParts : List Part := [.outcomes, .tally, .openRun, .courseFlags, .transmitList, .counts]

/-- What a needle's arrival changes (R66). -/
def arrivalParts : List Part :=
  [.outcomes, .tally, .openRun, .courseFlags, .transmitList, .counts, .rowChoice, .cleanRead, .causes,
   .latch, .pages, .float, .headHeight, .headCode, .headFire, .headWaiting]

/-- What the judgement of a waiting course carrier changes (R139). -/
def judgeParts : List Part := [.pin, .courseCarrier, .courseFlags, .causes, .latch]

/-- What each command may change; no other part of the state is changed by it. -/
def footprint : Instr → List Part
  | .encoderEdge _ _ =>
    [.posPhase, .posC, .posTracker, .posIndices, .posRacking, .posFrontier, .rowSlots, .rowPinned,
     .orderQueue, .standby, .active, .expected, .backingTable, .backingPhase, .backingShadow,
     .standbyTake, .pin, .courseCarrier, .sticky, .history] ++ arrivalParts
  | .referenceMark =>
    [.posC, .posTracker, .posReferenced, .posIndices, .posFrontier, .mode, .sticky, .pin,
     .courseCarrier] ++ arrivalParts
  | .headConfirm => [.headHeight, .headCode, .headFire, .headWaiting, .headFaults] ++ leaveParts
  | .fireDeadline =>
    [.headHeight, .headCode, .headFire, .headWaiting, .headFaults, .headDisabled, .sticky, .causes,
     .latch] ++ leaveParts
  | .railInputChange _ => [.railLevel, .railHeld]
  | .railFilterExpiry => [.railGood, .railHeld, .railCause, .causes, .latch, .counts]
  | .pinConfirm => [.carrierTable, .transmitList, .counts, .pin, .courseCarrier]
  | .engagementDeadline => [.carrierTable, .transmitList, .counts, .sticky] ++ judgeParts
  | .releaseDeadline => [.carrierTable, .transmitList, .counts, .sticky, .pin, .courseCarrier]
  | .span _ => [.rowSlots, .standby, .active, .sticky, .counts] ++ noticeParts
  | .close _ => [.rowSlots, .standby, .active, .counts] ++ noticeParts
  | .order _ _ =>
    [.pages, .orderQueue, .standby, .lastRefusal, .sticky, .standbyTake, .transmitList, .counts] ++
      noticeParts
  | .backing _ _ => [.backingShadow, .sticky, .counts] ++ noticeParts
  | .place _ _ => [.carrierTable, .sticky, .counts] ++ judgeParts ++ noticeParts
  | .take _ _ _ =>
    [.carrierTable, .standbyTake, .courseCarrier, .courseFlags, .transmitList, .counts] ++ clashParts ++
      noticeParts
  | .pick _ _ _ => [.carrierTable, .courseCarrier, .counts] ++ clashParts ++ noticeParts
  | .park _ _ _ _ => [.carrierTable, .sticky, .counts] ++ judgeParts ++ noticeParts
  | .claim _ _ => [.pages, .counts] ++ clashParts ++ noticeParts
  | .report _ _ => clashParts ++ noticeParts
  | .status _ _ => clashParts ++ noticeParts
  | .setup _ _ =>
    [.mode, .posIndices, .carrierTable, .health, .windowErrors, .cleanWindows, .sticky, .firstBad] ++
      noticeParts
  | .reset _ =>
    [.orderQueue, .standby, .active, .expected, .rowChoice, .cleanRead, .backingShadow, .courseFlags,
     .tally, .rowSlots, .rowPinned, .outcomes, .float, .pages, .openRun, .headFire, .headWaiting,
     .headFaults, .headDisabled, .transmitList, .carrierTable, .pin, .standbyTake, .courseCarrier,
     .posFrontier, .posRacking, .posIndices, .history] ++ noticeParts
  | .clearStop _ => .latch :: noticeParts
  | .clearSticky _ => [.sticky, .causes, .firstBad, .lastRefusal] ++ noticeParts
  | .queryPage0 _ _ => [.transmitList, .counts] ++ noticeParts
  | .queryPage1 _ _ => [.transmitList, .counts] ++ noticeParts
  | .queryPage2 _ _ => [.transmitList, .counts] ++ noticeParts
  | .queryUnknownPage _ _ _ => .sticky :: noticeParts
  | .lineError _ =>
    [.windowErrors, .cleanWindows, .health, .courseFlags, .counts] ++ noticeParts
  | .symbolError =>
    [.windowErrors, .cleanWindows, .health, .courseFlags, .counts] ++ noticeParts
  | .foreignNotice _ _ => .counts :: clashParts ++ noticeParts
  | .addressClash _ => clashParts ++ noticeParts
  | .receiverIdle => noticeParts
  | .transmitStart => [.sending, .guardDriven] ++ noticeParts
  | .noticeSent =>
    [.transmitList, .sending, .guardOff, .carrierTable, .standbyTake, .courseCarrier] ++ noticeParts
  | .arbitrationLost => [.sending, .guardOff]
  | .sendCollision => [.sending, .guardOff, .counts]
  | .guardCut =>
    [.transmitList, .sending, .guardOff, .guard, .guardDriven, .counts, .causes, .latch, .standbyTake,
     .courseCarrier, .courseFlags]
  | .guardReturn => [.guard, .guardOff]
  | .lineWindowEnd => [.windowErrors, .cleanWindows, .health]
  | .hardReset _ _ _ _ =>
    [.posPhase, .posC, .posTracker, .posReferenced, .posIndices, .posRacking, .posFrontier, .rowSlots,
     .rowPinned, .orderQueue, .standby, .active, .expected, .rowChoice, .cleanRead, .backingTable,
     .backingPhase, .backingShadow, .courseFlags, .tally, .lastRefusal, .outcomes, .float, .pages,
     .openRun, .headHeight, .headCode, .headFire, .headWaiting, .headFaults, .headDisabled, .railGood,
     .railLevel, .railHeld, .railCause, .carrierTable, .pin, .standbyTake, .courseCarrier,
     .transmitList, .sending, .receiver, .idleTime, .guard, .guardDriven, .guardOff, .health,
     .windowErrors, .cleanWindows, .straps, .mode, .sticky, .causes, .latch, .firstBad, .history,
     .counts]
  | .startMark => noticeParts

/-! ### The encoder's table -/

/-- The table of R1, row by row: what a change of levels from (A, B) to (A', B') adds to C; none where it
is illegal. -/
def quadrature : Bool × Bool → Bool × Bool → Option Int
  | (false, false), (false, false) => some 0
  | (false, false), (true, false) => some 1
  | (false, false), (true, true) => none
  | (false, false), (false, true) => some (-1)
  | (true, false), (false, false) => some (-1)
  | (true, false), (true, false) => some 0
  | (true, false), (true, true) => some 1
  | (true, false), (false, true) => none
  | (true, true), (false, false) => none
  | (true, true), (true, false) => some (-1)
  | (true, true), (true, true) => some 0
  | (true, true), (false, true) => some 1
  | (false, true), (false, false) => some 1
  | (false, true), (true, false) => none
  | (false, true), (true, true) => some (-1)
  | (false, true), (false, true) => some 0

/-! ### Invariants of the blocks -/

/-- The ranges of R178 that a setup record in use lies in. -/
def SetupRec.inRange (r : SetupRec) : Prop :=
  16 ≤ r.width ∧ r.width ≤ 4096 ∧ 2048 ≤ r.pitch ∧ r.pitch ≤ 65535 ∧
  -4194304 ≤ r.kref ∧ r.kref ≤ 4194303 ∧ -1048576 ≤ r.offset ∧ r.offset ≤ 1048575 ∧
  -32768 ≤ r.phase ∧ r.phase ≤ 32767 ∧ r.anticipation ≤ 32767 ∧
  2 ≤ r.fireDeadline ∧ r.fireDeadline ≤ 255 ∧ 1 ≤ r.faultLimit ∧ r.faultLimit ≤ 15 ∧
  (r.floatLimit = 0 ∨ (2 ≤ r.floatLimit ∧ r.floatLimit ≤ 63)) ∧
  1 ≤ r.runLimit ∧ r.runLimit ≤ 255 ∧ r.tolerance ≤ 255 ∧
  1 ≤ r.errorThreshold ∧ r.errorThreshold ≤ 255 ∧
  -1048576 ≤ r.pinOffset ∧ r.pinOffset ≤ 1048575 ∧ r.drop ≤ 255 ∧ r.unclean ≤ 7

/-- The marks of the tracker around the count (R4, R5). -/
def Tracker.around (c : Int) : Tracker → Prop
  | .unknown low high => low ≤ c ∧ c ≤ high ∧ high ≤ low + 15
  | .right e => c ≤ e ∧ e - 16 < c
  | .left e => e ≤ c ∧ c < e + 16

/-- The position unit stays in step with itself: the setup record in use lies in its ranges, C lies in the
counting range, the marks stand around C, the indices are those of the present count, direction and
racking, and the racking and the frontier belong to the running course (R3, R4, R5, R10, R14, R19, R178). -/
def State.PositionAgrees (s : State) : Prop :=
  (∀ r, s.setup? = some r → r.inRange) ∧
  -4194304 ≤ s.pos.c ∧ s.pos.c ≤ 4194303 ∧
  s.pos.tracker.around s.pos.c ∧
  s.pos.idx = s.indicesNow ∧
  s.pos.racking = (match s.course.active with | some a => a.order.racking | none => 0) ∧
  s.pos.frontier.isSome = s.course.active.isSome ∧
  (s.course.active.isSome = true → ∃ r, s.ctl.mode = .run r)

/-- The course counters account for every counting arrival, and the outcome list is empty while no course
runs (R65, R83, R85). -/
def State.Accounted (s : State) : Prop :=
  (s.course.active = none → s.dec.outcomes = []) ∧
  s.course.tally.decided =
    s.course.tally.nones + s.course.tally.loops + s.course.tally.tucks + s.course.tally.tops +
    s.course.tally.failed + s.course.tally.untracked + s.dec.outcomes.countP (·.counting)

/-- The transmit list is ordered by class and holds at most 16 notices (R156). -/
def State.ListOrdered (s : State) : Prop :=
  s.line.list.Pairwise (fun m n => m.cls ≤ n.cls) ∧ s.line.list.length ≤ 16

/-- Both counts of a claim page saturate at 65,535 (R103, R104). -/
def Page.countsFit (p : Page) : Prop := p.doubles ≤ 65535 ∧ p.lateDoubles ≤ 65535

/-- The open run stays shorter than the run limit; before SETUP there is none (R89, R90). -/
def State.RunBelowLimit (s : State) : Prop :=
  (s.setup? = none → s.claim.run = none) ∧
  (∀ r x, s.setup? = some r → s.claim.run = some x → x.count < r.runLimit)

/-- The consecutive fault count stays below the fault limit while the head is READY, and never passes it;
before SETUP nothing is fired (R112, R118). -/
def State.FaultsWithinLimit (s : State) : Prop :=
  (s.setup? = none → s.head.fire = none ∧ s.head.faults = 0 ∧ s.head.disabled = false) ∧
  (∀ r, s.setup? = some r → s.head.faults ≤ r.faultLimit ∧
    (s.head.disabled = false → s.head.faults < r.faultLimit))

/-- The counts, lists and tables of the station stay within what the rules give them: the counters, the
order queue, the outcome list, the backing table with its phase and shadow, the counts of the claim pages,
and the health windows. -/
def State.WithinLimits (s : State) : Prop :=
  (∀ k : Counter, s.count k ≤ 65535) ∧
  s.course.queue.length ≤ 8 ∧ s.dec.outcomes.length ≤ 8 ∧
  1 ≤ s.course.table.length ∧ s.course.table.length ≤ 32 ∧
  s.course.phase < s.course.table.length ∧
  (∀ l, s.course.shadow = some l → 1 ≤ l.length ∧ l.length ≤ 32) ∧
  (∀ p, s.claim.page0 = some p → p.countsFit) ∧ (∀ p, s.claim.page1 = some p → p.countsFit) ∧
  s.line.windowErrors ≤ 255 ∧ s.line.cleanWindows ≤ 16

/-- The row store's form: every span list is as R21 says, no row has two slots, the arrival sequence
numbers are 1 to the number of held slots, one each (R24), and no slot is held before SETUP (R25). -/
def State.RowsInForm (s : State) : Prop :=
  (s.ctl.mode = .setup → ∀ i : Fin 4, s.rows.slots[i] = none) ∧
  (∀ (i : Fin 4) (x : Slot), s.rows.slots[i] = some x →
    canonical s.width x.spans = true ∧ x.count ≤ 65535 ∧
    1 ≤ x.seq ∧ x.seq ≤ 4 - s.rows.freeCount) ∧
  (∀ (i j : Fin 4) (x y : Slot), i ≠ j → s.rows.slots[i] = some x → s.rows.slots[j] = some y →
    x.row ≠ y.row ∧ x.seq ≠ y.seq)

/-- One claim page's form: an entry for each needle, and no station looped that is not heard (R95). -/
def Page.inForm (p : Page) (w : Nat) : Prop :=
  p.entries.length = w ∧ ∀ e ∈ p.entries, e.looped &&& ~~~e.heard = 0

/-- The claim pages' form (R95): each covers the bed, and no row has two. -/
def State.PagesInForm (s : State) : Prop :=
  (s.ctl.mode = .setup → s.claim.page0 = none ∧ s.claim.page1 = none) ∧
  (∀ p, s.claim.page0 = some p → p.inForm s.width) ∧
  (∀ p, s.claim.page1 = some p → p.inForm s.width) ∧
  (∀ p q, s.claim.page0 = some p → s.claim.page1 = some q → p.row ≠ q.row)

/-- The head is between heights while a fire is in flight, a request waits only behind a fire, and a
disabled head stands still at an unknown height (R109, R110, R116, R119). -/
def State.HeadAgrees (s : State) : Prop :=
  (s.head.fire.isSome = true → s.head.height = none) ∧
  (s.head.waiting.isSome = true → s.head.fire.isSome = true) ∧
  (s.head.disabled = true → s.head.height = none ∧ s.head.fire = none ∧ s.head.waiting = none)

/-- The pin and the course carrier: there is a course carrier only in a running course, the pin stays
RELEASED without a carrier owner strap, and an engagement that belongs to the running course is for that
course's own carrier and pass, WAITING or MISSED meanwhile (R136, R137, R139, R145). -/
def State.PinAgrees (s : State) : Prop :=
  (s.course.active = none → s.carr.course = none) ∧
  (s.ctl.owner = false → s.carr.pin = .released) ∧
  (∀ c p d, s.carr.pin = .engaging c p d true →
    ∃ cc, s.carr.course = some cc ∧ cc.carrier = c ∧ cc.pass = p ∧ cc.source = .own ∧
      (cc.state = .waiting ∨ cc.state = .missed))

/-- Every park needle lies in -64 … W+63 (R128). -/
def State.ParksOnRail (s : State) : Prop :=
  16 ≤ s.width ∧
  ∀ (c : Fin 16) (x : Int), (s.carrier c).place = .parked x → -64 ≤ x ∧ x ≤ (s.width : Int) + 63

/-- The pinned slot is CLOSED, and so is the slot of the ACTIVE row while the course reads it clean; the
idle context of a starved course has the role IDLE (R36, R51, R58). -/
def State.PinnedIsClosed (s : State) : Prop :=
  (∀ i : Fin 4, s.rows.pinned = some i → ∃ x, s.rows.slots[i] = some x ∧ x.state = .closed) ∧
  (∀ a, s.course.active = some a → a.starved = true → a.order.role = .idle) ∧
  (s.course.cleanRead = true → ∀ a, s.course.active = some a →
    a.starved = false ∧ s.rows.stateOf a.order.row = some .closed)

/-- The float counter stays below the float limit, and at 0 without one (R74). -/
def State.FloatBelowLimit (s : State) : Prop :=
  (s.setup? = none → s.dec.float = 0) ∧
  (∀ r, s.setup? = some r → s.dec.float = 0 ∨ s.dec.float < r.floatLimit)

/-! ### Rules spelled out for the statements -/

/-- The direction tracker after a counted edge has brought C to `c` (R4, R5). -/
def trackerAfter (c : Int) : Tracker → Tracker
  | .unknown low high =>
    if min low c + 16 ≤ c then .right c
    else if c ≤ max high c - 16 then .left c
    else .unknown (min low c) (max high c)
  | .right e => if e < c then .right c else if c ≤ e - 16 then .left c else .right e
  | .left e => if c < e then .left c else if e + 16 ≤ c then .right c else .left e

/-- The direction change that a counted edge to `c` makes, if any (R5). -/
def turnAt (c : Int) : Tracker → Option Dir
  | .unknown _ _ => none
  | .right e => if c ≤ e - 16 then some .left else none
  | .left e => if e + 16 ≤ c then some .right else none

/-- The counting range (R3). -/
def counted (c : Int) : Prop := -4194304 ≤ c ∧ c ≤ 4194303

/-- The range of a field of the SETUP body, by its number (R173, R178). -/
def SetupBody.fieldInRange (b : SetupBody) (owner : Bool) : Nat → Prop
  | 1 => 16 ≤ b.width.toNat ∧ b.width.toNat ≤ 4096
  | 2 => 2048 ≤ b.pitch.toNat
  | 3 => -4194304 ≤ b.kref.toInt ∧ b.kref.toInt ≤ 4194303
  | 4 => -1048576 ≤ b.offset.toInt ∧ b.offset.toInt ≤ 1048575
  | 6 => b.anticipation.toNat ≤ 32767
  | 10 => 2 ≤ b.fireDeadline.toNat
  | 11 => 1 ≤ b.faultLimit.toNat ∧ b.faultLimit.toNat ≤ 15
  | 12 => b.floatLimit.toNat = 0 ∨ (2 ≤ b.floatLimit.toNat ∧ b.floatLimit.toNat ≤ 63)
  | 13 => 1 ≤ b.runLimit.toNat
  | 15 => 1 ≤ b.errorThreshold.toNat
  | 16 => owner = true → -1048576 ≤ b.pinOffset.toInt ∧ b.pinOffset.toInt ≤ 1048575
  | 18 => b.unclean.toNat ≤ 7
  | _ => True

/-- What a refused ORDER does (R45). -/
def Refused (s t : State) (r : RefusalReason) : Prop :=
  t.course.lastRefusal = some r ∧ t.isSticky .orderRefused = true ∧ StickyExcept [.orderRefused] s t ∧
  t.count .ordersRefused = min (s.count .ordersRefused + 1) 65535 ∧ CountsExcept [.ordersRefused] s t ∧
  SameExcept ([.lastRefusal, .sticky, .counts] ++ noticeParts) s t

/-- The row status of an order that enters STANDBY: PRIMED, but for a PATTERN or COVER order whose row is
FILLING or has no slot (R47). -/
def waitsForRow (s : State) (o : Order) : Prop :=
  (o.role = .pattern ∨ o.role = .cover) ∧
  (s.rows.stateOf o.row = none ∨ s.rows.stateOf o.row = some .filling)

/-- Order `o` has entered STANDBY of `t` from the queue of `s`, which makes its standby take, with the TAKE
and the drop that come with it (R47, R134). -/
def EnteredStandby (s t : State) (o : Order) : Prop :=
  (∃ b, t.course.standby = some b ∧ b.order = o ∧ (b.status = .waiting ↔ waitsForRow s o)) ∧
  (let u := s.standbyTakeFor o
   t.carr.standbyTake = u.carr.standbyTake ∧ t.line.list = u.line.list ∧ t.counts = u.counts)

/-- The claim page that is bound to another row stays as it is (R96, R100). -/
def OtherPageKept (row : Word16) (s t : State) : Prop :=
  (∀ p, s.claim.page0 = some p → p.row ≠ row → t.claim.page0 = some p) ∧
  (∀ p, s.claim.page1 = some p → p.row ≠ row → t.claim.page1 = some p)

/-- The page as a binding leaves it: an entry for each needle of the bed with both sets empty and no own mark,
both counts 0, and no listen mask (R96). -/
def FreshFor (row : Word16) (w : Nat) (p : Page) : Prop :=
  p.row = row ∧ p.doubles = 0 ∧ p.lateDoubles = 0 ∧ p.listen = 0 ∧ p.entries.length = w ∧
  ∀ e ∈ p.entries, e.heard = 0 ∧ e.looped = 0 ∧ e.own = .none

/-- What an accepted ORDER does: its window is clamped, it joins the tail of the queue, priming runs, and
a COVER order has a page bound to its row (R44, R47, R96). -/
def Accepted (s t : State) (o : Order) : Prop :=
  (let x := { o with winLast := min o.winLast (s.width - 1) }
   (s.course.standby ≠ none → t.course.queue = s.course.queue ++ [x] ∧
      SameExcept ([.pages, .orderQueue] ++ noticeParts) s t) ∧
   (s.course.standby = none → s.course.queue = [] → t.course.queue = [] ∧ EnteredStandby s t x) ∧
   (∀ y ys, s.course.standby = none → s.course.queue = y :: ys →
      t.course.queue = ys ++ [x] ∧ EnteredStandby s t y)) ∧
  (o.role ≠ .cover → t.claim = s.claim) ∧
  (o.role = .cover → ∃ p, t.claim.pageOf o.row = some p ∧
    (∀ p', s.claim.pageOf o.row = some p' → p = p') ∧
    (s.claim.pageOf o.row = none → FreshFor o.row s.width p)) ∧
  OtherPageKept o.row s t ∧
  SameExcept ([.pages, .orderQueue, .standby, .standbyTake, .transmitList, .counts] ++ noticeParts) s t

/-- The actions an order may carry, by its course type and the bed (R43). -/
def allowedBy : CourseType → Bool → List Action
  | .knit, _ => [.miss, .tuck, .knit]
  | .transfer, false => [.miss, .xfer]
  | .transfer, true => [.miss, .recv]

/-- A clash: ADDRESS CLASH is set and recorded, and nothing else but the receiver changes (R160). -/
def Clashed (s t : State) : Prop :=
  SameExcept (clashParts ++ noticeParts) s t ∧
  t.isSticky .addressClash = true ∧ StickyExcept [.addressClash] s t ∧
  t.isRecorded .addressClash = true ∧ CausesExcept [.addressClash] s t ∧ t.ctl.latch = true

/-- A carrier notice of a carrier that does not exist is ignored and counted (R128). -/
def CarrierIgnored (s t : State) : Prop :=
  SameExcept (.counts :: noticeParts) s t ∧ CountsExcept [.carrierNoticesIgnored] s t ∧
  t.count .carrierNoticesIgnored = min (s.count .carrierNoticesIgnored + 1) 65535

/-- The outcome list after the answer `o` for needle `n`: its entry is FINAL, and every final entry at the
head has left (R79, R80). -/
def answered (l : List Entry) (n : Nat) (o : NeedleOutcome) : List Entry :=
  (l.map (resolveEntry n o)).dropWhile fun e => e.outcome.isSome

/-- The needles that a forming of the indices leaves to arrive in the running course, with the frontier
following: `m` is the station with the indices formed, `t` the station after the arrivals (R17, R18). -/
def ArrivedFrom (m t : State) : Prop :=
  (m.course.active = none ∨ m.pos.frontier = none → t = m) ∧
  ∀ a f i, m.course.active = some a → m.pos.frontier = some f → m.pos.idx = some i →
    (let g := match a.travel with
       | .right => max f i.d
       | .left => min f i.d
     t = arriveAll (arriving a.travel f i.d m.width) (m.setPos { m.pos with frontier := some g }) ∧
     t.pos.frontier = some g)

/-- The held slot is in use: an order in the queue or in STANDBY names its row or, when `running` counts the
ACTIVE context, the order of that does; the idle context of a starved course is no order (R34, R51). -/
def InUse (s : State) (i : Fin 4) (running : Bool) : Prop :=
  ∃ x, s.rows.slots[i] = some x ∧
    ((∃ o ∈ s.course.queue, o.row = x.row) ∨
     (∃ b, s.course.standby = some b ∧ b.order.row = x.row) ∨
     (running = true ∧ ∃ a, s.course.active = some a ∧ a.starved = false ∧ a.order.row = x.row))

/-- The order queue or STANDBY names the row as COVER (R97). -/
def CoversRow (s : State) (row : Word16) : Prop :=
  (∃ o ∈ s.course.queue, o.role = .cover ∧ o.row = row) ∨
  (∃ b, s.course.standby = some b ∧ b.order.role = .cover ∧ b.order.row = row)

/-- The drop point of a course is reached by the pin index `p` (R141). -/
def AtDrop (cc : CourseCarrier) (drop : Nat) (p : Int) : Prop :=
  match cc.travel with
  | .right => (cc.winLast : Int) + drop ≤ p
  | .left => p ≤ (cc.winFirst : Int) - drop

/-- In a course travelling `dir`, index `p` has not reached needle `x` (R138). -/
def ShortOf (dir : Dir) (p x : Int) : Prop := match dir with | .right => p < x | .left => x < p

/-- In a course travelling `dir`, index `p` has passed needle `x` (R138). -/
def Beyond (dir : Dir) (p x : Int) : Prop := ShortOf dir x p

/-- A context that decides nothing (R51, R52). -/
def DecidesNothing (o : Order) : Prop :=
  o.role = .idle ∧ o.winLast < o.winFirst ∧ o.carrier = none ∧ o.racking = 0 ∧ o.announce = false

/-! ### Notices placed in the transmit list -/

/-- The class of a notice: TAKE, PICK and PARK come before CLAIM, and CLAIM before REPORT and STATUS (R152,
R169). -/
def classOf : Notice → Nat
  | .take _ _ => 0
  | .pick _ _ => 0
  | .park _ _ _ => 0
  | .claim _ _ _ _ _ => 1
  | .report _ => 3
  | .status _ _ _ => 3

/-- The notice has joined the list: after every notice of its own class and of lower classes, and before
those of a higher class (R156). -/
def Joined (n : Notice) (old new : List Notice) : Prop :=
  ∃ l r, old = l ++ r ∧ new = l ++ n :: r ∧ (∀ m ∈ l, classOf m ≤ classOf n) ∧
    ∀ m, r.head? = some m → classOf n < classOf m

/-- The notice is placed in the list `old`: it joins, or with 16 notices there it is dropped and the drop
counter of its kind, `k`, goes up by one from its value in `s` (R156, R168). -/
def Placed (n : Notice) (k : Counter) (old : List Notice) (s t : State) : Prop :=
  (old.length < 16 → Joined n old t.line.list ∧ t.count k = s.count k) ∧
  (16 ≤ old.length → t.line.list = old ∧ t.count k = min (s.count k + 1) 65535)

/-! ### The answers to a QUERY -/

/-- The parts of an answer are placed after every waiting notice; a list with too little room takes the first
ones, and the others are counted as dropped, on top of `counts` (R156, R188). -/
def Answered (s t : State) (counts : Counter → Nat) (parts : List Notice) : Prop :=
  SameExcept ([.transmitList, .counts] ++ noticeParts) s t ∧
  t.line.list = s.line.list ++ parts.take (16 - s.line.list.length) ∧
  (∀ k, k ≠ .statusDrops → t.count k = counts k) ∧
  (let dropped := parts.length - (16 - s.line.list.length)
   (dropped = 0 → t.count .statusDrops = counts .statusDrops) ∧
   (dropped ≠ 0 → t.count .statusDrops = min (counts .statusDrops + dropped) 65535))

/-- Byte `k` of a STATUS body, of whose bytes 2 to 31 `part` is the list (R188). -/
def bodyByte (part : List Byte) (k : Nat) : Nat := (part[k - 2]?.getD 0).toNat

/-- A flag as the number 0 or 1. -/
def flagOf (b : Bool) : Nat := if b then 1 else 0

/-- The sticky flags in the order of the table of R183. -/
def stickyOrder : List StickyFlag :=
  [.encoder, .posLimit, .slip, .rowRefused, .orderRefused, .passSkew, .backingRefused, .fireFault,
   .placeRefused, .pinFault, .addressClash, .unsupported, .lateSetup, .setupRefused]

/-- The stop causes in the order of the table of R184. -/
def causeOrder : List StopCause :=
  [.slip, .starve, .direction, .rowLate, .rowDamaged, .carrierDenied, .carrierMissed, .carrierFault,
   .addressClash, .unclean, .headDisabled, .railLow, .guardCut]

/-- The course flags in the bit order of R172. -/
def courseFlagOrder : List CourseFlag :=
  [.starve, .direction, .rowLate, .rowDamaged, .carrierDenied, .carrierMissed, .carrierFault,
   .claimsDropped, .lineDegraded]

/-- The status counters in the order of the table of R190. -/
def counterOrder : List Counter :=
  [.encoderErrors, .spansIgnored, .lateSpans, .rowRefusals, .rowEvictions, .rowsDamaged, .ordersRefused,
   .needlesGuarded, .needlesRefusedByHead, .needlesRefusedForRail, .needlesLost, .needlesFaulted,
   .needlesEnded, .needlesUntracked, .claimsFormed,
   .claimsApplied, .claimsOutOfRange, .firesStarted, .fireDeadlines, .strayConfirms, .railDrops,
   .carrierConflicts, .takesWithdrawn, .pinDeadlines, .strayPinConfirms, .carrierNoticesIgnored,
   .symbolErrors, .checkErrors, .lengthErrors, .classMismatches,
   .foreignNotices, .sendCollisions, .guardCuts, .degradations, .takeDrops, .pickDrops, .parkDrops,
   .claimDrops, .reportDrops, .statusDrops, .earlyNotices]

/-- STATUS page 0 shows the station as the table of R189 lays it out, the bits without a name 0 (log 21). -/
def Page0Shows (s : State) (part : List Byte) : Prop :=
  let at_ := bodyByte part
  part.length = 30 ∧
  at_ 2 / 64 = (match s.ctl.mode with | .setup => 0 | .ready _ => 1 | .run _ => 2) ∧
  (at_ 2).testBit 5 = s.running ∧
  at_ 2 / 8 % 4 = (match s.course.standby with
    | none => 0
    | some b => if b.status = .waiting then 1 else 2) ∧
  (at_ 2).testBit 2 = s.pos.referenced ∧ (at_ 2).testBit 1 = s.line.degraded ∧
  (at_ 2).testBit 0 = s.line.guardCut ∧
  at_ 3 / 32 = (match s.head.height with
    | some .low => 0 | some .mid => 1 | some .high => 2 | some .top => 3 | none => 4) ∧
  (at_ 3).testBit 4 = s.head.disabled ∧ (at_ 3).testBit 3 = s.head.railGood ∧
  at_ 3 / 2 % 4 = (match s.pos.tracker.dir with | none => 0 | some .right => 1 | some .left => 2) ∧
  (at_ 3).testBit 0 = s.ctl.latch ∧
  at_ 4 = s.ctl.station.toNat + 16 * flagOf s.ctl.bedBack + 32 * flagOf s.ctl.owner ∧
  256 * at_ 5 + at_ 6 = s.ctl.sticky.toNat ∧ 256 * at_ 7 + at_ 8 = s.ctl.causes.toNat ∧
  (∀ k < 14, ∀ f, stickyOrder[k]? = some f → (256 * at_ 5 + at_ 6).testBit k = s.isSticky f) ∧
  (∀ k < 13, ∀ c, causeOrder[k]? = some c → (256 * at_ 7 + at_ 8).testBit k = s.isRecorded c) ∧
  at_ 9 = flagOf s.head.disabled + 2 * flagOf s.head.railCause + 4 * flagOf s.line.guardCut ∧
  256 * at_ 10 + at_ 11 = s.course.flags.toNat ∧
  (∀ k < 9, ∀ f, courseFlagOrder[k]? = some f → (256 * at_ 10 + at_ 11).testBit k = s.isCourseFlag f) ∧
  (∀ j : Fin 8, (at_ 12).testBit j.val = s.ctl.history[j]) ∧
  at_ 13 = (match s.course.lastRefusal with
    | none => 0 | some .undefinedCode => 1 | some .queueFull => 2 | some .rackingRange => 3
    | some .roleNotAllowed => 4 | some .actionNotAllowed => 5 | some .noCarrierPin => 6
    | some .noClaimPage => 7) ∧
  at_ 14 = s.ctl.firstBad.getD 0 ∧
  at_ 15 / 16 = s.course.queue.length ∧ (at_ 15).testBit 3 = s.course.expected.isSome ∧
  at_ 15 % 8 = s.rows.slots.toList.countP (·.isNone) ∧
  256 * at_ 16 + at_ 17 = (s.course.expected.getD 0).toNat ∧
  ((65536 * at_ 18 + 256 * at_ 19 + at_ 20 : Nat) : Int) = s.pos.c % 16777216 ∧
  ∀ k, 21 ≤ k → at_ k = 0

/-- Part `k` of STATUS page 2 shows the carrier records 4k to 4k+3 and the pin as R191 lays them out. -/
def Page2Shows (s : State) (k : Nat) (part : List Byte) : Prop :=
  let at_ := bodyByte part
  part.length = 30 ∧
  (∀ (j : Nat) (c : Fin 16), j < 4 → c.val = 4 * k + j →
    (let r := s.carrier c
     let b := 2 + 6 * j
     at_ b / 64 = (match r.place with | .unknown => 0 | .parked _ => 1 | .held _ => 2) ∧
     (at_ b).testBit 5 = r.reserved.isSome ∧
     (∀ q, r.place = .held q → at_ b % 16 = q.toNat) ∧
     (((256 * at_ (b + 1) + at_ (b + 2) : Nat) : Int) =
       (match r.place with | .parked x => x | _ => 0) % 65536) ∧
     (∀ v, r.reserved = some v → at_ (b + 3) % 16 = v.station.toNat) ∧
     256 * at_ (b + 4) + at_ (b + 5) = (match r.reserved with | some v => v.pass.toNat | none => 0))) ∧
  at_ 26 / 64 = (match s.carr.pin with
    | .released => 0 | .engaging _ _ _ _ => 1 | .engaged _ _ => 2 | .releasing _ _ _ _ => 3) ∧
  (at_ 26).testBit 4 = s.carr.pin.carrierOn.isSome ∧
  (∀ c, s.carr.pin.carrierOn = some c → at_ 26 % 16 = c.val) ∧
  ∀ j, 27 ≤ j → at_ j = 0

/-! ### Effects that several commands share -/

/-- A course flag is set; when it was clear, its stop cause is recorded and the latch is set (R54, R184,
R185). -/
def Flagged (s t : State) (f : CourseFlag) (c : StopCause) : Prop :=
  t.isCourseFlag f = true ∧ (s.isCourseFlag f = false → t.isRecorded c = true ∧ t.ctl.latch = true)

/-- A row has become ready: the contexts that wait for it are PRIMED, the ACTIVE one until its row choice,
and the others stay as they were (R33, R48). -/
def RowReady (s t : State) (row : Word16) : Prop :=
  (s.course.standby = none → t.course.standby = none) ∧
  (∀ y, s.course.standby = some y → y.order.row = row →
    t.course.standby = some { y with status := .primed }) ∧
  (∀ y, s.course.standby = some y → y.order.row ≠ row → t.course.standby = s.course.standby) ∧
  (s.course.active = none → t.course.active = none) ∧
  (∀ z, s.course.active = some z → z.order.row = row → s.course.choice = none →
    t.course.active = some { z with status := .primed }) ∧
  (∀ z, s.course.active = some z → z.order.row ≠ row ∨ s.course.choice ≠ none →
    t.course.active = s.course.active)

/-- An own TAKE is lost: the standby take and the course's take for its carrier and pass are DENIED, and
with them a course that waits, unless its engagement is in flight; a take for another carrier or pass stays
(R135, R139). A waiting course whose take was DENIED before, which no run reaches, is left out. -/
def TakeLost (s t : State) (c : Fin 16) (pass : Word16) : Prop :=
  (∀ y, s.carr.standbyTake = some y → t.carr.standbyTake =
    some (if y.carrier = c ∧ y.pass = pass then { y with state := .denied } else y)) ∧
  (s.carr.standbyTake = none → t.carr.standbyTake = none) ∧
  (s.carr.course = none → t.carr.course = none ∧ t.course.flags = s.course.flags) ∧
  (∀ cc, s.carr.course = some cc → cc.carrier ≠ c ∨ cc.pass ≠ pass ∨ cc.take = none →
    cc.state ≠ .waiting ∨ cc.take ≠ some .denied →
    t.carr.course = some cc ∧ t.course.flags = s.course.flags) ∧
  ∀ cc, s.carr.course = some cc → cc.carrier = c → cc.pass = pass → cc.take ≠ none →
    (cc.source = .own → cc.state = .waiting → s.carr.pin.engagingForCourse = false →
      t.carr.course = some { cc with take := some .denied, state := .denied } ∧
      Flagged s t .carrierDenied .carrierDenied) ∧
    (cc.state ≠ .waiting ∨ s.carr.pin.engagingForCourse = true →
      t.carr.course = some { cc with take := some .denied } ∧ t.course.flags = s.course.flags)

/-- What an entry adds as it leaves: one to the course counter of its result, and one to the decision
counter of its outcome, none at DONE; for an entry that does not count, nothing (R80, R83, R84). -/
def Accounts (s u : State) (e : Entry) (o : NeedleOutcome) : Prop :=
  (e.counting = false → u = s) ∧
  (e.counting = true → SameExcept [.tally, .counts] s u ∧
    u.course.tally =
      (let y := s.course.tally
       match resultOf o e.action with
       | .none => { y with nones := y.nones + 1 }
       | .loop => { y with loops := y.loops + 1 }
       | .tuck => { y with tucks := y.tucks + 1 }
       | .top => { y with tops := y.tops + 1 }
       | .failed => { y with failed := y.failed + 1 }) ∧
    (let counter : Option Counter :=
       match o with
       | .done => none
       | .guarded => some .needlesGuarded
       | .disabled => some .needlesRefusedByHead
       | .rail => some .needlesRefusedForRail
       | .lost => some .needlesLost
       | .fault => some .needlesFaulted
       | .ended => some .needlesEnded
     ∀ k, u.count k = if counter = some k then min (s.count k + 1) 65535 else s.count k))

/-! ### Layouts -/

/-- The body of a REPORT shows its fields as the table of R172 lays them out. -/
def ReportShows (r : Report) (body : List Byte) : Prop :=
  let at_ (k : Nat) : Nat := (body[k]?.getD 0).toNat
  let word (k : Nat) : Nat := 256 * at_ k + at_ (k + 1)
  body.length = 22 ∧ word 0 = r.pass.toNat ∧ word 2 = r.row.toNat ∧
  word 4 / 4096 = r.freeOrders ∧
  word 4 / 1024 % 4 = (match r.kind with | .complete => 0 | .cut => 1 | .idle => 2) ∧
  (word 4).testBit 9 = false ∧ word 4 % 512 = r.flags.toNat ∧
  word 6 / 8192 = r.freeSlots ∧ word 6 % 8192 = r.tally.decided ∧
  word 8 = r.tally.nones ∧ word 10 = r.tally.loops ∧ word 12 = r.tally.tucks ∧
  word 14 = r.tally.tops ∧ word 16 = r.tally.failed ∧ word 18 = r.tally.untracked ∧
  at_ 20 = min r.doubles 255 ∧ at_ 21 = min r.lateDoubles 255

/-- A report whose numbers fit its fields: 8 order places, 4 slots, and course counters up to 4,096. -/
def Report.fits (r : Report) : Prop :=
  r.freeOrders ≤ 8 ∧ r.freeSlots ≤ 4 ∧ r.tally.decided ≤ 4096 ∧ r.tally.nones ≤ 4096 ∧
  r.tally.loops ≤ 4096 ∧ r.tally.tucks ≤ 4096 ∧ r.tally.tops ≤ 4096 ∧ r.tally.failed ≤ 4096 ∧
  r.tally.untracked ≤ 4096

/-- The setup record takes each field of the body, the signed ones in two's complement, the pin offset as 0
at a station that is no owner (R173, R178). -/
def RecordOf (b : SetupBody) (owner : Bool) (r : SetupRec) : Prop :=
  r.width = b.width.toNat ∧ r.pitch = b.pitch.toNat ∧ r.kref = b.kref.toInt ∧
  r.offset = b.offset.toInt ∧ r.phase = b.phase.toInt ∧ r.anticipation = b.anticipation.toNat ∧
  (r.rounding = .nearest ↔ b.nearest = true) ∧ (r.unheard = .trust ↔ b.trust = true) ∧
  (r.rowPolicy = .use ↔ b.useRow = true) ∧ r.fireDeadline = b.fireDeadline.toNat ∧
  r.faultLimit = b.faultLimit.toNat ∧ r.floatLimit = b.floatLimit.toNat ∧
  r.runLimit = b.runLimit.toNat ∧ r.tolerance = b.tolerance.toNat ∧
  r.errorThreshold = b.errorThreshold.toNat ∧
  (owner = true → r.pinOffset = b.pinOffset.toInt) ∧ (owner = false → r.pinOffset = 0) ∧
  r.drop = b.drop.toNat ∧ r.unclean = b.unclean.toNat

/-- A SETUP body read from its bytes as the table of R173 lays them out. -/
def SetupReads (l : List Byte) (b : SetupBody) : Prop :=
  let at_ (k : Nat) : Nat := (l[k]?.getD 0).toNat
  let word (k : Nat) : Nat := 256 * at_ k + at_ (k + 1)
  let long (k : Nat) : Nat := 65536 * at_ k + word (k + 1)
  b.width.toNat = word 0 ∧ b.pitch.toNat = word 2 ∧ b.kref.toNat = long 4 ∧ b.offset.toNat = long 7 ∧
  b.phase.toNat = word 10 ∧ b.anticipation.toNat = word 12 ∧ b.nearest = (at_ 14).testBit 0 ∧
  b.trust = (at_ 14).testBit 1 ∧ b.useRow = (at_ 14).testBit 2 ∧ b.fireDeadline.toNat = at_ 15 ∧
  b.faultLimit.toNat = at_ 16 ∧ b.floatLimit.toNat = at_ 17 ∧ b.runLimit.toNat = at_ 18 ∧
  b.tolerance.toNat = at_ 19 ∧ b.errorThreshold.toNat = at_ 20 ∧ b.pinOffset.toNat = long 21 ∧
  b.drop.toNat = at_ 24 ∧ b.unclean.toNat = at_ 25

end Sys2Proof.Machine
end

