-- ==== Sys2Proof/Certificates/Slice0/Obligations.lean ====
section
/-! DEFINITION. The statements about the station, for the provers. Each docstring names the rules it
rests on. `SameExcept l s t` says that nothing but the parts in `l` differs. -/

open Sys2Proof Sys2Proof.Machine

/-! ### The queue, and the station as a whole -/

/-- One step runs the command at the front of the queue on the station with the rest of the queue; on an
empty queue the block idles, which is the model's choice (log 1). -/
def Obligations.StepRunsTheFrontCommand : Prop :=
  ∀ s : State,
    (∀ (c : Instr) (cs : List Instr), s.pending = c :: cs → step s = exec c (s.setPending cs)) ∧
    (s.pending = [] → step s = .next s)

/-- No event stops the station: every command has a next state in every state, and nothing outside the
command's footprint changes, the queue of commands least of all. -/
def Obligations.CommandsCompleteWithinTheirFootprint : Prop :=
  ∀ (c : Instr) (s : State), ∃ t, exec c s = .next t ∧ SameExcept (footprint c) s t

/-- R119, R122, R165, R184, R185, R186: a command that records a stop cause leaves the latch set, and the
latch falls only at a clear-stop addressed to the station with no level cause holding, or at a hard reset. A
level cause ends only at its own event: HEAD DISABLED at a course reset, RAIL LOW at the filter's expiry,
GUARD CUT at the guard's return, each at a hard reset too. -/
def Obligations.StopCausesHoldTheLatchUntilTheirEnd : Prop :=
  (∀ (c : Instr) (s t : State), exec c s = .next t →
     (∀ k, s.isRecorded k = false → t.isRecorded k = true → t.ctl.latch = true) ∧
     (s.ctl.latch = true → t.ctl.latch = false →
       (∃ q, c = .clearStop q ∧ s.addressed q = true ∧
         s.head.disabled = false ∧ s.head.railCause = false ∧ s.line.guardCut = false) ∨
       (∃ x a b r, c = .hardReset x a b r))) ∧
  (∀ (c : Instr) (s t : State), exec c s = .next t → (∀ x a b r, c ≠ .hardReset x a b r) →
     (s.head.disabled = true → t.head.disabled = false → ∃ q, c = .reset q ∧ s.addressed q = true) ∧
     (s.head.railCause = true → t.head.railCause = false → c = .railFilterExpiry) ∧
     (s.line.guardCut = true → t.line.guardCut = false → c = .guardReturn))

/-- R175, R176, R178: the station state moves only from SETUP to READY at an accepted SETUP, from READY to
RUN at a reference load, and to SETUP at a hard reset; straps and an accepted setup record are held until
the next hard reset. -/
def Obligations.StationStateMovesOnlyForward : Prop :=
  ∀ (c : Instr) (s t : State), exec c s = .next t →
    (t.ctl.mode ≠ s.ctl.mode →
      (∃ q b r, c = .setup q b ∧ s.addressed q = true ∧ s.ctl.mode = .setup ∧ t.ctl.mode = .ready r) ∨
      (∃ r, c = .referenceMark ∧ s.ctl.mode = .ready r ∧ t.ctl.mode = .run r) ∨
      (∃ x a b r, c = .hardReset x a b r ∧ t.ctl.mode = .setup)) ∧
    ((∀ x a b r, c ≠ .hardReset x a b r) →
      t.ctl.station = s.ctl.station ∧ t.ctl.bedBack = s.ctl.bedBack ∧ t.ctl.owner = s.ctl.owner ∧
      ∀ r, s.setup? = some r → t.setup? = some r)

/-- R183, R184, R186, R188 and 00, Times and counts: sticky flags and recorded causes fall only at a
clear-sticky addressed to the station or at a hard reset, and a level cause that holds keeps its mark at the
former; a status counter falls only at a QUERY of page 1 with the clear flag or at a hard reset. -/
def Obligations.FlagsAndCountersFallOnlyAtTheirClears : Prop :=
  (∀ (c : Instr) (s t : State), exec c s = .next t →
     ((∃ f, s.isSticky f = true ∧ t.isSticky f = false) ∨
      (∃ k, s.isRecorded k = true ∧ t.isRecorded k = false)) →
     (∃ q, c = .clearSticky q ∧ s.addressed q = true ∧
       (s.head.disabled = true → s.isRecorded .headDisabled = true → t.isRecorded .headDisabled = true) ∧
       (s.head.railCause = true → s.isRecorded .railLow = true → t.isRecorded .railLow = true) ∧
       (s.line.guardCut = true → s.isRecorded .guardCut = true → t.isRecorded .guardCut = true)) ∨
     (∃ x a b r, c = .hardReset x a b r)) ∧
  (∀ (c : Instr) (s t : State) (k : Counter), exec c s = .next t → s.count k ≤ 65535 →
     t.count k < s.count k →
     (∃ q x, c = .queryPage1 q x ∧ s.addressed q = true ∧ x ≠ 0) ∨
     (∃ x a b r, c = .hardReset x a b r))

/-- R49, R63: the course state becomes RUNNING only at an encoder edge in RUN that turns the direction, and
NONE only at a course reset or a hard reset. -/
def Obligations.CourseStateChangesAtTurnsAndResets : Prop :=
  ∀ (c : Instr) (s t : State), exec c s = .next t →
    (s.running = false → t.running = true →
      ∃ a b r d, c = .encoderEdge a b ∧ s.ctl.mode = .run r ∧
        quadrature (s.pos.phaseA, s.pos.phaseB) (a, b) = some d ∧
        (turnAt (s.pos.c + d) s.pos.tracker).isSome = true) ∧
    (s.running = true → t.running = false →
      (∃ q, c = .reset q ∧ s.addressed q = true) ∨ (∃ x a b r, c = .hardReset x a b r))

/-! ### Invariants that every step keeps -/

/-- R3, R4, R5, R10, R14, R19, R49, R178: the setup record in use lies in its ranges, C in the counting
range, the marks around C; the indices are those of the present count; racking and frontier belong to the
running course, which runs in RUN. -/
def Obligations.StepKeepsThePositionUnitInStep : Prop :=
  ∀ s t : State, s.PositionAgrees → step s = .next t → t.PositionAgrees

/-- R65, R74, R83, R85: the course counters account for every counting arrival, and the float counter stays
below its limit. -/
def Obligations.StepKeepsTheDecisionUnit : Prop :=
  ∀ s t : State, step s = .next t →
    (s.Accounted → t.Accounted) ∧ (s.FloatBelowLimit → t.FloatBelowLimit)

/-- R46, R55, R56, R77, R90, R103, R104, R118, R156, R166, R167, and 00, Times and counts: the transmit
list is ordered by class and holds at most 16; counters, queue, outcome list, backing table, phase, shadow,
page counts and window counts stay within their limits, the open run below the run limit, and the fault count
within the fault limit. -/
def Obligations.StepKeepsTheListsAndCountsInBounds : Prop :=
  (∀ s t : State, s.ListOrdered → step s = .next t → t.ListOrdered) ∧
  (∀ s t : State, s.WithinLimits → step s = .next t → t.WithinLimits) ∧
  (∀ s t : State, s.RunBelowLimit → step s = .next t → t.RunBelowLimit) ∧
  (∀ s t : State, s.PositionAgrees → s.HeadAgrees → s.FaultsWithinLimit → step s = .next t →
    t.FaultsWithinLimit)

/-- R21, R24, R25, R36, R51, R58: the span lists and the arrival numbers keep their form, and the pinned
slot stays CLOSED. -/
def Obligations.StepKeepsTheRowStore : Prop :=
  ∀ s t : State, step s = .next t →
    (s.RowsInForm → t.RowsInForm) ∧ (s.PinnedIsClosed → t.PinnedIsClosed)

/-- R95: each bound page has an entry for each needle, with no station looped that is not heard, and no
row has two pages. -/
def Obligations.StepKeepsTheClaimPagesInForm : Prop :=
  ∀ s t : State, s.PagesInForm → step s = .next t → t.PagesInForm

/-- R109, R110, R116, R119: the head is between heights while a fire is in flight, a request waits only
behind a fire, and a disabled head stands at an unknown height with neither. -/
def Obligations.StepKeepsTheHeadAgreeing : Prop :=
  ∀ s t : State, s.HeadAgrees → step s = .next t → t.HeadAgrees

/-- R128, R136, R137, R139, R145: the pin belongs to its carrier, and every park needle lies on the rail. -/
def Obligations.StepKeepsTheCarrierUnit : Prop :=
  ∀ s t : State, step s = .next t →
    (s.PinAgrees → t.PinAgrees) ∧ (s.ParksOnRail → t.ParksOnRail)

/-- The station after reset, with the pin levels the model chose for it (log 7), meets every invariant
above. -/
def Obligations.ResetMeetsEveryInvariant : Prop :=
  State.reset.PositionAgrees ∧ State.reset.Accounted ∧ State.reset.ListOrdered ∧
  State.reset.WithinLimits ∧ State.reset.RowsInForm ∧ State.reset.PagesInForm ∧
  State.reset.HeadAgrees ∧ State.reset.PinAgrees ∧ State.reset.ParksOnRail ∧
  State.reset.PinnedIsClosed ∧ State.reset.FloatBelowLimit ∧ State.reset.RunBelowLimit ∧
  State.reset.FaultsWithinLimit

/-! ### Position and arrival -/

/-- R12: TRUNC rounds toward zero, and each needle's cell is as the rule gives it. -/
def Obligations.TruncatedQuotientCells : Prop :=
  ∀ (D : Int) (p : Nat), 0 < p →
    (-(p : Int) < D → D < p → roundDiv .trunc D p = 0) ∧
    (∀ n : Nat, 0 ≤ D → 1 ≤ n →
      (roundDiv .trunc D p = n ↔ (n * p : Int) ≤ D ∧ D ≤ (n + 1) * p - 1)) ∧
    (∀ n : Nat, D ≤ 0 → 1 ≤ n →
      (roundDiv .trunc D p = -n ↔ -((n + 1) * p : Int) + 1 ≤ D ∧ D ≤ -(n * p : Int)))

/-- R13: NEAREST gives the nearest integer, an exact half the even one, and is symmetric about zero. -/
def Obligations.NearestQuotientHalvesToEven : Prop :=
  ∀ (D : Int) (p : Nat), 0 < p →
    (∀ q : Int, 2 * (D - q * p).natAbs < p → roundDiv .nearest D p = q) ∧
    (∀ q : Int, 2 * (D - q * p).natAbs = p → q % 2 = 0 → roundDiv .nearest D p = q) ∧
    2 * (D - roundDiv .nearest D p * p).natAbs ≤ p ∧
    roundDiv .nearest (-D) p = -roundDiv .nearest D p

/-- R10, R11, R14, R15, R17, R66: the three indices of the present count; a forming takes them and reports a
change of the pin index to the carrier unit; and the needles that arrive are those beyond the frontier up to
the decision index that are on the bed, in travel order, each once, one after another. -/
def Obligations.NeedlesArriveAsTheIndicesPassThem : Prop :=
  (∀ (s : State) (r : SetupRec), s.setup? = some r →
     ∃ i, s.indicesNow = some i ∧
       (let off : Int := if s.ctl.bedBack then s.pos.racking else 0
        let q (x : Int) : Int := roundDiv r.rounding (x * 256 + r.phase) r.pitch
        i.s = q (s.pos.c + r.offset) - off ∧
        i.p = q (s.pos.c + r.offset + if s.ctl.owner then r.pinOffset else 0) - off ∧
        (∀ lo hi, s.pos.tracker = .unknown lo hi → i.d = q (s.pos.c + r.offset) - off) ∧
        (∀ e, s.pos.tracker = .right e → i.d = q (s.pos.c + r.offset + r.anticipation) - off) ∧
        (∀ e, s.pos.tracker = .left e → i.d = q (s.pos.c + r.offset - r.anticipation) - off))) ∧
  (∀ s : State, s.form.pos = { s.pos with idx := s.indicesNow } ∧
     (let m := s.setPos { s.pos with idx := s.indicesNow }
      (s.pos.idx.map (·.p) = s.indicesNow.map (·.p) → s.form = m) ∧
      ∀ i j, s.pos.idx = some i → s.indicesNow = some j → i.p ≠ j.p →
        s.form = (m.judgeMove i.p j.p).judgeDrop)) ∧
  (∀ (f d : Int) (w : Nat),
     (∀ n : Nat, n ∈ arriving .right f d w ↔ f < n ∧ (n : Int) ≤ d ∧ n < w) ∧
     (∀ n : Nat, n ∈ arriving .left f d w ↔ (n : Int) < f ∧ d ≤ n ∧ n < w) ∧
     (arriving .right f d w).Pairwise (· < ·) ∧ (arriving .left f d w).Pairwise (· > ·)) ∧
  (∀ (s : State) (n : Nat) (ns : List Nat),
     arriveAll [] s = s ∧ arriveAll (n :: ns) s = arriveAll ns (s.arrive n))

/-- R1, R3, R4, R5, R10, R17, R18, R49: a legal edge moves C by the table of R1 and the tracker judges it;
one that would pass a limit only sets POSLIMIT; levels that have not changed move nothing. Without a turn the
indices are formed anew, and in a running course the needles passed arrive and the frontier follows. Outside
RUN, with no course running, an edge moves only the position unit. -/
def Obligations.LegalEdgeMovesTheCount : Prop :=
  ∀ (a b : Bool) (s : State) (d : Int),
    quadrature (s.pos.phaseA, s.pos.phaseB) (a, b) = some d →
    ∃ t, exec (.encoderEdge a b) s = .next t ∧ t.pos.phaseA = a ∧ t.pos.phaseB = b ∧
      (d = 0 → SameExcept [.posPhase] s t) ∧
      (d ≠ 0 → counted (s.pos.c + d) →
        t.pos.c = s.pos.c + d ∧ t.pos.tracker = trackerAfter (s.pos.c + d) s.pos.tracker) ∧
      (d ≠ 0 → ¬ counted (s.pos.c + d) →
        SameExcept [.posPhase, .sticky] s t ∧ t.isSticky .posLimit = true ∧
        StickyExcept [.posLimit] s t) ∧
      (d ≠ 0 → counted (s.pos.c + d) → turnAt (s.pos.c + d) s.pos.tracker = none →
        ArrivedFrom (s.setPos { s.pos with
          phaseA := a, phaseB := b, c := s.pos.c + d,
          tracker := trackerAfter (s.pos.c + d) s.pos.tracker }).form t) ∧
      (d ≠ 0 → counted (s.pos.c + d) → (∀ r, s.ctl.mode ≠ .run r) → s.course.active = none →
        s.carr.course = none →
        SameExcept [.posPhase, .posC, .posTracker, .posIndices] s t ∧ t.pos.idx = t.indicesNow)

/-- R2: an illegal transition leaves C and the tracker, sets ENCODER, is counted, and is no stop cause. -/
def Obligations.IllegalEdgeIsFlaggedAndCounted : Prop :=
  ∀ (a b : Bool) (s : State), quadrature (s.pos.phaseA, s.pos.phaseB) (a, b) = none →
    ∃ t, exec (.encoderEdge a b) s = .next t ∧ SameExcept [.posPhase, .sticky, .counts] s t ∧
      t.pos.phaseA = a ∧ t.pos.phaseB = b ∧
      t.isSticky .encoder = true ∧ StickyExcept [.encoder] s t ∧
      t.count .encoderErrors = min (s.count .encoderErrors + 1) 65535 ∧
      CountsExcept [.encoderErrors] s t

/-- R14, R16, R47, R50 to R54, R56, R98, R166, R185: a direction change in RUN ends the running course and
makes STANDBY the ACTIVE context, or an idle one when it is EMPTY; an order of the other direction runs as
IDLE; the expected pass is renewed; the course counters are zeroed and the course flags cleared, but for
STARVE, DIRECTION and LINE DEGRADED as the start finds them; a pending backing load is applied and a BACKING
course advances the phase; a COVER course sets the listen mask of its page; the queue primes STANDBY again,
which makes its standby take; and the frontier is the decision index, whose needle arrives at once when it is
on the bed. -/
def Obligations.TurnInRunStartsACourse : Prop :=
  ∀ (a b : Bool) (s : State) (d : Int) (r : SetupRec) (dir : Dir),
    quadrature (s.pos.phaseA, s.pos.phaseB) (a, b) = some d → d ≠ 0 → counted (s.pos.c + d) →
    s.ctl.mode = .run r → turnAt (s.pos.c + d) s.pos.tracker = some dir →
    ∃ t, exec (.encoderEdge a b) s = .next t ∧ ∃ x, t.course.active = some x ∧ x.travel = dir ∧
      t.pos.tracker.dir = some dir ∧ t.pos.racking = x.order.racking ∧
      t.course.expected = some (x.order.pass + 1) ∧
      (s.course.standby = none → DecidesNothing x.order ∧ x.order.row = 0 ∧
        x.order.pass = s.course.expected.getD 0 ∧ t.isRecorded .starve = true ∧ t.ctl.latch = true) ∧
      (∀ y, s.course.standby = some y → y.order.direction = dir → x.order = y.order) ∧
      (∀ y, s.course.standby = some y → y.order.direction ≠ dir → DecidesNothing x.order ∧
        x.order.pass = y.order.pass ∧ x.order.row = y.order.row ∧ t.isRecorded .direction = true ∧
        t.ctl.latch = true) ∧
      (∀ p, s.course.expected = some p → p ≠ x.order.pass → t.isSticky .passSkew = true) ∧
      (s.course.queue = [] → t.course.standby = none ∧ t.course.queue = []) ∧
      (∀ o os, s.course.queue = o :: os → t.course.queue = os ∧
        ∃ y, t.course.standby = some y ∧ y.order = o) ∧
      t.course.table = s.course.shadow.getD s.course.table ∧ t.course.shadow = none ∧
      (let phase := if s.course.shadow = none then s.course.phase else 0
       t.course.phase = if x.order.role = .backing then
         (phase + x.order.step) % t.course.table.length else phase) ∧
      (x.order.role = .cover → ∀ p, t.claim.pageOf x.order.row = some p →
        p.listen = x.order.listen &&& ~~~(1#16 <<< s.ctl.station.toNat)) ∧
      (let m := (s.setPos { s.pos with
         phaseA := a, phaseB := b, c := s.pos.c + d,
         tracker := trackerAfter (s.pos.c + d) s.pos.tracker }).form
       let e := match s.course.active with
         | some y => m.endCourse y
         | none => m
       let g := e.activate dir
       let w := (g.loadBacking x).handContext x
       let u := w.prime
       SameExcept [.standby, .active, .expected, .courseFlags, .tally, .sticky, .causes, .latch] e g ∧
       g.course.standby = none ∧ g.course.active = some x ∧ g.course.tally = ⟨0, 0, 0, 0, 0, 0, 0⟩ ∧
       (g.isCourseFlag .starve = true ↔ s.course.standby = none) ∧
       (g.isCourseFlag .direction = true ↔
         ∃ y, s.course.standby = some y ∧ y.order.direction ≠ dir) ∧
       g.isCourseFlag .lineDegraded = s.line.degraded ∧
       (∀ k, k ≠ .starve → k ≠ .direction → k ≠ .lineDegraded → g.isCourseFlag k = false) ∧
       (s.course.queue = [] → u = w) ∧
       (∀ o os, s.course.queue = o :: os → EnteredStandby w u o ∧
         SameExcept [.orderQueue, .standby, .standbyTake, .transmitList, .counts] w u) ∧
       ∀ i, u.pos.idx = some i →
         (let v := u.setPos { u.pos with frontier := some i.d }
          t = (if 0 ≤ i.d ∧ i.d < (s.width : Int) then v.arrive i.d.toNat else v) ∧
          t.pos.frontier = some i.d))

/-- R7, R8, R9, R17, R18, R176: taken while travelling RIGHT in READY or RUN the reference mark loads Kref
and is checked for slip, but at the first load; in a running course the needles passed arrive and the frontier
follows; between courses nothing else changes. In any other case it is ignored. -/
def Obligations.ReferenceMarkLoadsKref : Prop :=
  ∀ s : State,
    ((∀ e, s.pos.tracker ≠ .right e) ∨ s.ctl.mode = .setup → exec .referenceMark s = .next s) ∧
    ∀ (r : SetupRec) (e : Int), s.pos.tracker = .right e → s.setup? = some r →
      ∃ t, exec .referenceMark s = .next t ∧ t.pos.c = r.kref ∧ t.pos.tracker = .right r.kref ∧
        t.pos.referenced = true ∧ t.ctl.mode = .run r ∧
        (let k := s.checkSlip r
         ArrivedFrom ((k.setPos { s.pos with
           c := r.kref, tracker := .right r.kref, referenced := true }).setCtl
             { k.ctl with mode := .run r }).form t) ∧
        (let slipped := s.pos.referenced && decide (r.tolerance < (s.pos.c - r.kref).natAbs)
         t.isSticky .slip = (s.isSticky .slip || slipped) ∧ StickyExcept [.slip] s t ∧
         (slipped = true → t.isRecorded .slip = true ∧ t.ctl.latch = true) ∧
         (s.course.active = none → s.carr.course = none →
          SameExcept [.posC, .posTracker, .posReferenced, .posIndices, .mode, .sticky, .causes, .latch]
            s t ∧ t.pos.idx = t.indicesNow ∧
          CausesExcept [.slip] s t ∧ t.isRecorded .slip = (s.isRecorded .slip || slipped) ∧
          t.ctl.latch = (s.ctl.latch || slipped)))

/-! ### Rows -/

/-- R21, R22, R29, R30, R31: painting a range gives its needles the colour and leaves the others; the list
keeps its form within the capacity; and the count worked out before is the count after. -/
def Obligations.PaintedRangeTakesTheColour : Prop :=
  ∀ (w a b c : Nat) (l : List Span), canonical w l = true → a ≤ b → b < w → c ≤ 15 →
    (∀ n, colourAt n (paint a b c l) = if a ≤ n ∧ n ≤ b then c else colourAt n l) ∧
    (paint a b c l).length = paintCount a b c l ∧
    (paintCount a b c l ≤ 384 → canonical w (paint a b c l) = true)

/-- R25, R32, R55, R162, R177: a notice is addressed to a station by its number or by 31. A SPAN or CLOSE
with the station's mask flag clear, or an ORDER or BACKING for another station, changes nothing but the
receiver; one for the station in SETUP is dropped and counted as early. -/
def Obligations.PatternNoticesPassTheFilter : Prop :=
  (∀ (q : BitVec 5) (s : State),
     s.addressed q = true ↔ q.toNat = s.ctl.station.toNat ∨ q.toNat = 31) ∧
  ∀ (c : Instr) (s : State) (mine : Bool), s.hears = true →
    (∃ x, c = .span x ∧ mine = x.mask.getLsbD s.ctl.station.toNat) ∨
    (∃ x, c = .close x ∧ mine = x.mask.getLsbD s.ctl.station.toNat) ∨
    (∃ q x, c = .order q x ∧ mine = s.addressed q) ∨
    (∃ q x, c = .backing q x ∧ mine = s.addressed q) →
    ∃ t, exec c s = .next t ∧
      (mine = false → SameExcept noticeParts s t) ∧
      (mine = true → s.ctl.mode = .setup →
        SameExcept (.counts :: noticeParts) s t ∧ CountsExcept [.earlyNotices] s t ∧
        t.count .earlyNotices = min (s.count .earlyNotices + 1) 65535)

/-- R26, R28, R31, R33, R48: a SPAN for a row that has a slot only counts as late when the slot is no longer
FILLING; else it is counted in the slot and either ignored, put into the span list, or damages the slot when
the list would exceed 384 spans, which primes the contexts that wait for the row. The other slots keep theirs.
-/
def Obligations.SpanIsTakenIntoItsSlot : Prop :=
  ∀ (body : SpanBody) (s : State) (i : Fin 4) (x : Slot), s.hears = true →
    s.inMask body.mask = true → s.ctl.mode ≠ .setup →
    s.rows.find body.row = some i → s.rows.slots[i] = some x →
    ∃ t, exec (.span body) s = .next t ∧
      (x.state ≠ .filling → SameExcept (.counts :: noticeParts) s t ∧ CountsExcept [.lateSpans] s t ∧
        t.count .lateSpans = min (s.count .lateSpans + 1) 65535) ∧
      (x.state = .filling → ∃ y, t.rows.slots[i] = some y ∧ y.row = x.row ∧ y.seq = x.seq ∧
        y.count = min (x.count + 1) 65535 ∧
        (∀ j : Fin 4, j ≠ i → t.rows.slots[j] = s.rows.slots[j]) ∧
        (let a := body.first.toNat
         let b := min (a + body.length.toNat - 1) (s.width - 1)
         let c := body.colour.toNat % 16
         if s.width ≤ a ∨ body.length = 0 then
           SameExcept ([.rowSlots, .counts] ++ noticeParts) s t ∧
           y.state = .filling ∧ y.spans = x.spans ∧ CountsExcept [.spansIgnored] s t ∧
           t.count .spansIgnored = min (s.count .spansIgnored + 1) 65535
         else if paintCount a b c x.spans ≤ 384 then
           SameExcept (.rowSlots :: noticeParts) s t ∧
           y.state = .filling ∧ y.spans = paint a b c x.spans
         else
           SameExcept ([.rowSlots, .counts, .standby, .active] ++ noticeParts) s t ∧ RowReady s t x.row ∧
           y.state = .damaged ∧ y.spans = x.spans ∧ CountsExcept [.rowsDamaged] s t ∧
           t.count .rowsDamaged = min (s.count .rowsDamaged + 1) 65535))

/-- R24, R27, R34, R35: a SPAN for a row that has no slot takes the lowest-numbered FREE one, or evicts the held
slot with the lowest arrival number among those neither in use nor pinned, and is taken into it as the
newest; or it is refused. -/
def Obligations.SpanWithoutASlotTakesOne : Prop :=
  ∀ (body : SpanBody) (s : State), s.hears = true → s.inMask body.mask = true →
    s.ctl.mode ≠ .setup → s.rows.find body.row = none →
    ∃ t, exec (.span body) s = .next t ∧
      (let taken (i : Fin 4) : Prop :=
         ∃ y, t.rows.slots[i] = some y ∧ y.row = body.row ∧ y.count = 1 ∧ y.state = .filling ∧
           y.spans = (if s.width ≤ body.first.toNat ∨ body.length = 0 then [] else
             paint body.first.toNat (min (body.first.toNat + body.length.toNat - 1) (s.width - 1))
               (body.colour.toNat % 16) []) ∧
           ∀ (j : Fin 4) (z : Slot), j ≠ i → t.rows.slots[j] = some z → z.seq < y.seq
       (∀ i : Fin 4, s.rows.slots[i] = none → (∀ j : Fin 4, j < i → s.rows.slots[j] ≠ none) →
         taken i ∧ (∀ j : Fin 4, j ≠ i → t.rows.slots[j] = s.rows.slots[j]) ∧
         t.count .rowEvictions = s.count .rowEvictions) ∧
       ((∀ i : Fin 4, s.rows.slots[i] ≠ none) →
         (∀ (i : Fin 4) (x : Slot), s.rows.slots[i] = some x →
           ¬ InUse s i true → s.rows.pinned ≠ some i →
           (∀ (j : Fin 4) (z : Slot), j ≠ i → s.rows.slots[j] = some z →
             ¬ InUse s j true → s.rows.pinned ≠ some j → x.seq < z.seq) →
           taken i ∧
           (∀ (j : Fin 4) (z : Slot), j ≠ i → s.rows.slots[j] = some z →
             t.rows.slots[j] = some { z with seq := if x.seq < z.seq then z.seq - 1 else z.seq }) ∧
           t.count .rowEvictions = min (s.count .rowEvictions + 1) 65535) ∧
         ((∀ i : Fin 4, InUse s i true ∨ s.rows.pinned = some i) →
           SameExcept ([.sticky, .counts] ++ noticeParts) s t ∧
           t.isSticky .rowRefused = true ∧ StickyExcept [.rowRefused] s t ∧
           CountsExcept [.rowRefusals] s t ∧
           t.count .rowRefusals = min (s.count .rowRefusals + 1) 65535)))

/-- R32, R33, R48: a CLOSE acts on the FILLING slot of its row by the count it carries, and makes the
contexts that wait for the row PRIMED; else nothing changes. That a saturated count and a CLOSE of 65,535 make
it CLOSED is the model's choice (log 34). -/
def Obligations.CloseSettlesAFillingRow : Prop :=
  ∀ (body : CloseBody) (s : State), s.hears = true → s.inMask body.mask = true →
    s.ctl.mode ≠ .setup →
    ∃ t, exec (.close body) s = .next t ∧
      (s.rows.stateOf body.row ≠ some .filling → SameExcept noticeParts s t) ∧
      (∀ (i : Fin 4) (x : Slot), s.rows.find body.row = some i → s.rows.slots[i] = some x →
        x.state = .filling →
        t.rows.slots[i] = some { x with
          state := if x.count = body.count.toNat then .closed else .damaged } ∧
        (∀ j : Fin 4, j ≠ i → t.rows.slots[j] = s.rows.slots[j]) ∧
        CountsExcept [.rowsDamaged] s t ∧
        (x.count = body.count.toNat → t.counts = s.counts) ∧
        (x.count ≠ body.count.toNat →
          t.count .rowsDamaged = min (s.count .rowsDamaged + 1) 65535) ∧
        RowReady s t x.row)

/-! ### Orders and courses -/

/-- R41, R42, R43, R44, R45, R47, R96, R171: an ORDER that reaches the course controller is refused with the
reason of the first check that fails, and accepted when none does; its body names no order exactly when a
coded field has an undefined code, and otherwise its fields are read as sent. An accepted COVER order has a page
bound to its row, an empty one where none was, and the page of another row stays. -/
def Obligations.OrderIsReadAndJudgedByTheTable : Prop :=
  (∀ (q : BitVec 5) (b : OrderBody) (s : State), s.hears = true → s.addressed q = true →
     s.ctl.mode ≠ .setup →
     ∃ t, exec (.order q b) s = .next t ∧
       (OrderBody.decode b = none → Refused s t .undefinedCode) ∧
       (∀ o, OrderBody.decode b = some o →
         if 8 ≤ s.course.queue.length then Refused s t .queueFull
         else if o.racking < -24 ∨ 24 < o.racking then Refused s t .rackingRange
         else if (o.role = .cover ∨ o.role = .backing) ∧ o.courseType = .transfer then
           Refused s t .roleNotAllowed
         else if o.selected ∉ allowedBy o.courseType s.ctl.bedBack ∨
             o.unselected ∉ allowedBy o.courseType s.ctl.bedBack then Refused s t .actionNotAllowed
         else if o.carrier ≠ none ∧ o.source = .own ∧ s.ctl.owner = false then
           Refused s t .noCarrierPin
         else if o.role = .cover ∧ s.claim.pageOf o.row = none ∧ s.claim.page0 ≠ none ∧
             s.claim.page1 ≠ none then Refused s t .noClaimPage
         else Accepted s t o)) ∧
  (∀ b : OrderBody,
     (OrderBody.decode b = none ↔ 1 < b.courseType.toNat ∨ 1 < b.direction.toNat ∨ 3 < b.role.toNat ∨
       4 < b.selected.toNat ∨ 4 < b.unselected.toNat ∨ (15 < b.source.toNat ∧ b.source ≠ 0x80)) ∧
     ∀ o, OrderBody.decode b = some o →
       o.pass = b.pass ∧ o.row = b.row ∧
       o.courseType = (if b.courseType = 0 then .knit else .transfer) ∧
       o.direction = (if b.direction = 0 then .right else .left) ∧
       [Role.idle, .pattern, .cover, .backing][b.role.toNat]? = some o.role ∧
       [Action.miss, .tuck, .knit, .xfer, .recv][b.selected.toNat]? = some o.selected ∧
       [Action.miss, .tuck, .knit, .xfer, .recv][b.unselected.toNat]? = some o.unselected ∧
       (b.carrier.getLsbD 7 = true → o.carrier = none) ∧
       (b.carrier.getLsbD 7 = false → ∃ c, o.carrier = some c ∧ c.val = b.carrier.toNat % 16) ∧
       (b.source = 0x80 → o.source = .own) ∧
       (∀ n : StationNo, b.source.toNat = n.toNat → o.source = .partner n) ∧
       o.winFirst = b.winFirst.toNat ∧ o.winLast = b.winLast.toNat ∧ o.racking = b.racking.toInt ∧
       o.step = b.step.toNat ∧ o.colours = b.colours ∧ o.listen = b.listen ∧
       o.announce = b.announce ∧ o.floatTie = b.floatTie)

/-- R55, R56: in READY or RUN a BACKING of length 1 to 32 replaces the shadow and any other length is refused;
a pending load is applied at a course start whatever its role, and a BACKING course advances the phase. -/
def Obligations.BackingIsTakenAndAppliedAtTheNextStart : Prop :=
  (∀ (q : BitVec 5) (b : BackingBody) (s : State), s.hears = true → s.addressed q = true →
     s.ctl.mode ≠ .setup →
     ∃ t, exec (.backing q b) s = .next t ∧
       (1 ≤ b.length.toNat → b.length.toNat ≤ 32 →
         SameExcept (.backingShadow :: noticeParts) s t ∧
         ∃ l, t.course.shadow = some l ∧ l.length = b.length.toNat ∧
           ∀ k < b.length.toNat,
             l[k]? = some (match (b.entries >>> (62 - 2 * k)).toNat % 4 with
               | 1 => .tuck
               | 2 => .knit
               | _ => .miss)) ∧
       (b.length.toNat = 0 ∨ 32 < b.length.toNat →
         SameExcept (.sticky :: noticeParts) s t ∧ t.isSticky .backingRefused = true ∧
         StickyExcept [.backingRefused] s t)) ∧
  (∀ (s : State) (a : Active),
     (s.loadBacking a).course.shadow = none ∧
     SameExcept [.backingTable, .backingPhase, .backingShadow] s (s.loadBacking a) ∧
     (∀ l, s.course.shadow = some l → (s.loadBacking a).course.table = l ∧
       (s.loadBacking a).course.phase =
         if a.order.role = .backing then a.order.step % l.length else 0) ∧
     (s.course.shadow = none → (s.loadBacking a).course.table = s.course.table ∧
       (s.loadBacking a).course.phase =
         if a.order.role = .backing then (s.course.phase + a.order.step) % s.course.table.length
         else s.course.phase))

/-- R54, R57, R58, R184: the row choice at the first window arrival: the own row, the pinned row or nothing,
by the row status, the state of the slot and the row policy, with the course flag each case sets and the stop
cause it raises. -/
def Obligations.RowChoiceFollowsTheTable : Prop :=
  ∀ (s : State) (a : Active) (r : SetupRec), s.setup? = some r →
    (let t := s.chooseRow a
     let held : RowChoice := if s.rows.pinned = none then .nothing else .pinned
     SameExcept [.rowChoice, .cleanRead, .courseFlags, .causes, .latch] s t ∧
     (a.status = .primed → s.rows.stateOf a.order.row = some .closed →
        t.course.choice = some .own ∧ t.course.cleanRead = true ∧ t.course.flags = s.course.flags) ∧
     (a.status = .primed → s.rows.stateOf a.order.row = some .damaged →
        t.course.choice = some (if r.rowPolicy = .use then .own else held) ∧
        t.course.cleanRead = false ∧ Flagged s t .rowDamaged .rowDamaged ∧
        FlagsExcept [.rowDamaged] s t) ∧
     (a.status = .waiting → s.rows.stateOf a.order.row = some .filling →
        t.course.choice = some (if r.rowPolicy = .use then .own else held) ∧
        t.course.cleanRead = false ∧ Flagged s t .rowLate .rowLate ∧ FlagsExcept [.rowLate] s t) ∧
     (a.status = .waiting → s.rows.stateOf a.order.row = none →
        t.course.choice = some (if r.rowPolicy = .use then .nothing else held) ∧
        t.course.cleanRead = false ∧ Flagged s t .rowLate .rowLate ∧ FlagsExcept [.rowLate] s t))

/-- R34, R36, R37, R59, R60, R61, R62, R85, R97, R123, R145, R156, R187: a course end accounts what is left of
the outcome list, every needle still unresolved as ENDED, closes the open run, drops the pending request, lets
a fire in flight go on without its needle, settles the pin and a carrier still waited for, places the REPORT
of the course with its end kind after the notices that wait, or drops and counts it at a full list, enters its
verdict as the newest of eight, moves the pin of the row store, and frees slots and claim pages that nothing
names any more; UNCLEAN is raised when the unclean verdicts exceed the tolerance. That no other event is taken
within the end is the model's choice (log 35). -/
def Obligations.CourseEndReportsTheCourse : Prop :=
  ∀ (s : State) (a : Active) (r : SetupRec), s.course.active = some a → s.setup? = some r →
    (let t := s.endCourse a
     let verdict := t.course.tally.failed != 0 || t.course.tally.untracked != 0 ||
       t.course.flags &&& 0x17F != 0
     t.course.active = none ∧ t.dec.outcomes = [] ∧ t.dec.float = 0 ∧ t.claim.run = none ∧
     t.head = { s.head with
       waiting := none, fire := s.head.fire.map fun f => { f with needle := none } } ∧
     t.carr.course = none ∧ t.pos.frontier = none ∧
     (∀ c p, s.carr.pin = .engaged c p → t.carr.pin = .releasing c p s.fireTime false) ∧
     (∀ c p d o, s.carr.pin = .engaging c p d o → t.carr.pin = .engaging c p d false) ∧
     ((∀ c p, s.carr.pin ≠ .engaged c p) → (∀ c p d o, s.carr.pin ≠ .engaging c p d o) →
       t.carr.pin = s.carr.pin) ∧
     (∀ cc, s.carr.course = some cc → cc.source = .own → cc.state = .waiting →
       Flagged s t .carrierMissed .carrierMissed) ∧
     t.course.tally.failed = s.course.tally.failed +
       s.dec.outcomes.countP (fun e => e.counting && e.outcome != some .done) ∧
     (s.count .needlesEnded ≤ 65535 → t.count .needlesEnded = min (s.count .needlesEnded +
       s.dec.outcomes.countP (fun e => e.counting &&
         (e.outcome == none || e.outcome == some .ended))) 65535) ∧
     t.ctl.history.toList = verdict :: s.ctl.history.toList.dropLast ∧
     (r.unclean < t.ctl.history.toList.count true → t.isRecorded .unclean = true ∧ t.ctl.latch = true) ∧
     (t.ctl.history.toList.count true ≤ r.unclean → t.isRecorded .unclean = s.isRecorded .unclean) ∧
     (let pin := if s.course.cleanRead = true ∧ s.rows.find a.order.row ≠ none
        then s.rows.find a.order.row else s.rows.pinned
      t.rows.pinned = pin ∧
      ∀ i : Fin 4,
        (let before := InUse s i true ∨ s.rows.pinned = some i
         let after := InUse s i false ∨ pin = some i
         (before ∧ ¬ after → t.rows.slots[i] = none) ∧
         (before → after → t.rows.slots[i].map (fun y => (y.state, y.row, y.count, y.spans)) =
            s.rows.slots[i].map fun y => (y.state, y.row, y.count, y.spans)) ∧
         (¬ before → t.rows.slots[i].map (fun y => (y.state, y.row, y.count, y.spans)) =
            s.rows.slots[i].map fun y => (y.state, y.row, y.count, y.spans)))) ∧
     (∀ p, s.claim.page0 = some p →
       (CoversRow s p.row → t.claim.page0 = some p) ∧ (¬ CoversRow s p.row → t.claim.page0 = none)) ∧
     (∀ p, s.claim.page1 = some p →
       (CoversRow s p.row → t.claim.page1 = some p) ∧ (¬ CoversRow s p.row → t.claim.page1 = none)) ∧
     (let l := (((s.setDec { s.dec with outcomes := s.dec.outcomes.map fun e =>
        { e with outcome := some (e.outcome.getD .ended) } }).leave).closeRun).line.list
      (a.order.announce = false → s.claim.run = none → l = s.line.list) ∧
      ∃ rep : Report, Placed (.report rep) .reportDrops l s t ∧
       rep.pass = a.order.pass ∧ rep.row = a.order.row ∧ rep.flags = t.course.flags ∧
       rep.tally = t.course.tally ∧ rep.freeSlots = s.rows.freeCount ∧
       rep.freeOrders = 8 - s.course.queue.length ∧
       (a.order.role = .idle → rep.kind = .idle) ∧
       (a.order.role ≠ .idle → s.course.tally.decided = a.order.winLast + 1 - a.order.winFirst →
         rep.kind = .complete) ∧
       (a.order.role ≠ .idle → s.course.tally.decided ≠ a.order.winLast + 1 - a.order.winFirst →
         rep.kind = .cut) ∧
       (a.order.role ≠ .cover → rep.doubles = 0 ∧ rep.lateDoubles = 0) ∧
       (a.order.role = .cover → ∀ p, s.claim.pageOf a.order.row = some p →
         rep.doubles = p.doubles ∧ rep.lateDoubles = p.lateDoubles)))

/-! ### Decisions, claims -/

/-- R22, R38, R57, R66 to R73: the action of a needle before the float tie, by the role; the actions are those
of the order or of the backing table. The colour is that of the span of the row source that holds the needle,
and 0 where none does: the row source is the slot of the course's row, or the pinned slot, or none, by the row
choice. What was heard of the needle is its entry in the claim page of the row. -/
def Obligations.RoleChoosesTheAction : Prop :=
  (∀ (w n : Nat) (l : List Span), canonical w l = true →
    (∀ x ∈ l, x.first ≤ n → n ≤ x.last → colourAt n l = x.colour) ∧
    ((∀ x ∈ l, n < x.first ∨ x.last < n) → colourAt n l = 0)) ∧
  (∀ (s : State) (a : Active) (n : Nat),
    (s.course.choice = some .own →
      (∀ (i : Fin 4) (x : Slot), s.rows.slots[i] = some x → x.row = a.order.row →
        (∀ (j : Fin 4) (y : Slot), s.rows.slots[j] = some y → y.row = a.order.row → j = i) →
        s.colour a n = colourAt n x.spans) ∧
      ((∀ (i : Fin 4) (x : Slot), s.rows.slots[i] = some x → x.row ≠ a.order.row) →
        s.colour a n = 0)) ∧
    (s.course.choice = some .pinned →
      (∀ (i : Fin 4) (x : Slot), s.rows.pinned = some i → s.rows.slots[i] = some x →
        s.colour a n = colourAt n x.spans) ∧
      (s.rows.pinned = none → s.colour a n = 0)) ∧
    (s.course.choice = some .nothing ∨ s.course.choice = none → s.colour a n = 0)) ∧
  ∀ (s : State) (a : Active) (n : Nat),
    (let listen := a.order.listen &&& ~~~(1#16 <<< s.ctl.station.toNat)
     let e := s.pageEntry a n
     (∀ p, s.claim.pageOf a.order.row = some p → e = p.entry n ∧
       ∀ x, p.entries[n]? = some x → e = x) ∧
     (a.order.role = .idle → s.roleAction a n = .miss) ∧
     (a.order.role = .pattern → s.roleAction a n =
       if a.order.colours.getLsbD (s.colour a n) then a.order.selected else a.order.unselected) ∧
     (a.order.role = .cover → a.order.colours.getLsbD (s.colour a n) = true →
       s.roleAction a n = a.order.selected) ∧
     (a.order.role = .cover → a.order.colours.getLsbD (s.colour a n) = false →
       (e.looped &&& listen ≠ 0 → s.roleAction a n = a.order.unselected) ∧
       (e.looped &&& listen = 0 → e.heard &&& listen = listen →
         s.roleAction a n = a.order.selected) ∧
       (e.looped &&& listen = 0 → e.heard &&& listen ≠ listen → ∀ r, s.setup? = some r →
         s.roleAction a n =
           if r.unheard = .fill then a.order.selected else a.order.unselected)) ∧
     (a.order.role = .backing → 0 < s.course.table.length →
       s.course.table[(n + s.course.phase) % s.course.table.length]? = some (s.roleAction a n)))

/-- R74: the float tie applies to KNIT courses of PATTERN and COVER orders that ask for it under a float
limit, counts MISSes, tucks the one that would reach the limit, and starts anew at a TUCK or KNIT. With a
float limit of 0 it applies to no course, and the counter stays. -/
def Obligations.FloatTieTucksTheLimit : Prop :=
  ∀ (s : State) (a : Active) (n : Nat) (r : SetupRec), s.setup? = some r →
    (let x := s.roleAction a n
     let y := s.chooseAction a n
     let tied := a.order.courseType = .knit ∧ (a.order.role = .pattern ∨ a.order.role = .cover) ∧
       a.order.floatTie = true
     (r.floatLimit = 0 ∨ ¬ tied → y = (x, s.dec.float)) ∧
     (2 ≤ r.floatLimit → s.dec.float < r.floatLimit → tied → x = .miss →
       y = if s.dec.float + 1 = r.floatLimit then (.tuck, 0) else (.miss, s.dec.float + 1)) ∧
     (2 ≤ r.floatLimit → tied → x = .tuck ∨ x = .knit → y = (x, 0)))

/-- R57, R65 to R69, R75, R76, R77 to R80, R82: a needle of the window arrives with no needle before it in
flight, the head GOOD and enabled and the row choice made: guarded, it is decided MISS, accounted failed and
the head is asked for nothing but LOW; else the ranked action is asked of the head by its height, and it is
accounted at once when the head stands at its height. The first window arrival of a course that reads a row
makes the row choice and goes on as any other. In every state a counting arrival is counted, marked and
decided, entered in the outcome list and requested of the head, and then final entries leave. A needle outside
the window, or of an IDLE course, is asked LOW and counted nowhere. A COVER course writes the own mark of each
counting needle, whatever the head's state; that a KNIT refused at once is marked OWN-OTHER also where the
list is full and the needle has no entry is the model's choice (log 36). -/
def Obligations.ArrivingNeedleIsDecidedAndDriven : Prop :=
  (Action.height .miss = .low ∧ Action.height .tuck = .mid ∧ Action.height .knit = .high ∧
    Action.height .xfer = .top ∧ Action.height .recv = .top) ∧
  (∀ (s : State) (a : Active) (n : Nat), s.course.active = some a → a.order.role ≠ .idle →
    a.order.winFirst ≤ n → n ≤ a.order.winLast → s.course.choice ≠ none ∨ a.order.role = .backing →
    s.dec.outcomes = [] → a.order.announce = false → s.head.disabled = false →
    s.head.railGood = true → s.head.fire = none →
    (let t := s.arrive n
     let y := s.chooseAction a n
     let guarded := a.order.carrier ≠ none ∧ ∀ cc, s.carr.course = some cc → cc.state ≠ .held
     t.course.tally.decided = s.course.tally.decided + 1 ∧ t.course.choice = s.course.choice ∧
     (guarded → t.course.tally.failed = s.course.tally.failed + 1 ∧ t.dec.outcomes = [] ∧
       t.dec.float = s.dec.float ∧ t.count .needlesGuarded = min (s.count .needlesGuarded + 1) 65535 ∧
       (s.head.height = some .low → t.head = s.head) ∧
       (s.head.height ≠ some .low → ∃ f, t.head.fire = some f ∧ f.target = .low)) ∧
     (¬ guarded → t.dec.float = y.2 ∧ t.course.tally.failed = s.course.tally.failed ∧
       (s.head.height = some y.1.height → t.head = s.head ∧ t.dec.outcomes = []) ∧
       (s.head.height ≠ some y.1.height → t.head.fire = some ⟨y.1.height, some n, s.fireTime⟩ ∧
         t.head.height = none ∧ t.head.code = y.1.height ∧
         ∃ e, t.dec.outcomes = [e] ∧ e.needle = n ∧ e.counting = true ∧ e.action = y.1 ∧
           e.outcome = none)))) ∧
  (∀ (s : State) (a : Active) (n : Nat), s.course.active = some a →
    a.order.role = .pattern ∨ a.order.role = .cover → a.order.winFirst ≤ n → n ≤ a.order.winLast →
    s.course.choice = none → s.arrive n = (s.chooseRow a).arrive n) ∧
  (∀ (s : State) (a : Active) (n : Nat), s.course.active = some a → a.order.role ≠ .idle →
    a.order.winFirst ≤ n → n ≤ a.order.winLast → s.course.choice ≠ none ∨ a.order.role = .backing →
    (let guarded := a.order.carrier ≠ none ∧ ∀ cc, s.carr.course = some cc → cc.state ≠ .held
     let y := s.chooseAction a n
     ∃ u : State, SameExcept [.tally, .float, .pages] s u ∧
       u.course.tally = { s.course.tally with decided := s.course.tally.decided + 1 } ∧
       (a.order.role ≠ .cover → u.claim = s.claim) ∧
       OtherPageKept a.order.row s u ∧
       (guarded → u.dec.float = s.dec.float ∧
         s.arrive n = ((u.enter n true .miss true).request n .low a.travel).leave) ∧
       (¬ guarded → u.dec.float = y.2 ∧
         s.arrive n = ((u.enter n true y.1 false).request n y.1.height a.travel).leave))) ∧
  (∀ (s : State) (a : Active) (n : Nat), s.course.active = some a →
    a.order.role = .idle ∨ n < a.order.winFirst ∨ a.order.winLast < n →
    (let t := s.arrive n
     t = ((s.enter n false .miss false).request n .low a.travel).leave ∧
     t.course.choice = s.course.choice ∧ t.dec.float = s.dec.float ∧ t.claim.page0 = s.claim.page0 ∧
     t.claim.page1 = s.claim.page1 ∧
     (s.dec.outcomes = [] → t.course.tally = s.course.tally ∧ t.claim.run = s.claim.run) ∧
     (s.dec.outcomes = [] → s.head.disabled = false → s.head.railGood = true → s.head.fire = none →
       (s.head.height = some .low → SameExcept [] s t) ∧
       (s.head.height ≠ some .low → SameExcept [.headHeight, .headCode, .headFire, .outcomes, .counts] s t ∧
         t.head.fire = some ⟨.low, some n, s.fireTime⟩ ∧ CountsExcept [.firesStarted] s t ∧
         t.dec.outcomes = [⟨n, false, .miss, none, false⟩])))) ∧
  (∀ (s : State) (a : Active) (n : Nat) (p : Page), s.course.active = some a → a.order.role = .cover →
    a.order.winFirst ≤ n → n ≤ a.order.winLast → s.course.choice ≠ none →
    s.claim.pageOf a.order.row = some p → n < p.entries.length →
    ∃ p', (s.arrive n).claim.pageOf a.order.row = some p' ∧
      (∀ k, k ≠ n → p'.entry k = p.entry k) ∧
      (p'.entry n).heard = (p.entry n).heard ∧ (p'.entry n).looped = (p.entry n).looped ∧
      (let guarded := a.order.carrier ≠ none ∧ ∀ cc, s.carr.course = some cc → cc.state ≠ .held
       let x := (s.chooseAction a n).1
       let refused := s.head.disabled = true ∨
         (s.head.railGood = false ∧ s.head.height ≠ some x.height)
       (p'.entry n).own = .loop ↔ ¬ guarded ∧ x = .knit ∧ ¬ refused) ∧
      (p'.entry n).own ≠ .none)

/-- R77, R78: a needle joins the outcome list, final at once as GUARDED when the yarn guard holds it; with
the list full a counting needle is counted untracked and breaks the claim after the tail, and another is
left out. -/
def Obligations.ArrivalEntersTheOutcomeList : Prop :=
  ∀ (s : State) (n : Nat) (counting guarded : Bool) (x : Action),
    (let t := s.enter n counting x guarded
     (s.dec.outcomes.length < 8 → SameExcept [.outcomes] s t ∧
       ∃ e : Entry, t.dec.outcomes = s.dec.outcomes ++ [e] ∧ e.needle = n ∧ e.counting = counting ∧
         e.action = x ∧ e.outcome = (if guarded then some NeedleOutcome.guarded else none) ∧
         e.breakAfter = false) ∧
     (8 ≤ s.dec.outcomes.length → counting = false → t = s) ∧
     (8 ≤ s.dec.outcomes.length → counting = true → SameExcept [.outcomes, .tally, .counts] s t ∧
       t.course.tally.untracked = s.course.tally.untracked + 1 ∧
       t.course.tally.decided = s.course.tally.decided ∧
       t.count .needlesUntracked = min (s.count .needlesUntracked + 1) 65535 ∧
       CountsExcept [.needlesUntracked] s t ∧
       t.dec.outcomes.dropLast = s.dec.outcomes.dropLast ∧
       ∃ e, s.dec.outcomes.getLast? = some e ∧
         t.dec.outcomes.getLast? = some { e with breakAfter := true }))

/-- R79, R80, R82, R83, R84, R92: an answer makes the UNRESOLVED entry of its needle FINAL; entries leave from
the head of the list as long as the head is FINAL; a result is formed from outcome and action. A leaving entry
that counts adds one to the course counter of its result and to the decision counter of its outcome, and hands
its result to the open run while the course announces; a break-after mark then closes the open run. -/
def Obligations.FinalEntriesLeaveInOrder : Prop :=
  (∀ (s : State) (n : Nat) (o : NeedleOutcome),
     (s.answer n o).dec.outcomes =
       ((s.dec.outcomes.map fun e =>
         if e.needle = n ∧ e.outcome = none then { e with outcome := some o } else e).dropWhile
           fun e => e.outcome.isSome) ∧
     SameExcept leaveParts s (s.answer n o) ∧
     s.answer n o = (s.setDec { s.dec with outcomes := s.dec.outcomes.map (resolveEntry n o) }).leave) ∧
  (∀ s : State,
     (s.dec.outcomes = [] → s.leave = s) ∧
     ∀ e es, s.dec.outcomes = e :: es →
       (e.outcome = none → s.leave = s) ∧
       (∀ o, e.outcome = some o →
         s.leave = ((s.account e o).setDec { s.dec with outcomes := es }).leave)) ∧
  (∀ (s : State) (e : Entry) (o : NeedleOutcome), ∃ u v : State,
     Accounts s u e o ∧
     (∀ a, s.course.active = some a → e.counting = true → a.order.announce = true →
       v = u.handRun a e.needle (resultOf o e.action)) ∧
     (∀ a, s.course.active = some a → e.counting = false ∨ a.order.announce = false → v = u) ∧
     (s.course.active = none → v = u) ∧
     s.account e o = if e.breakAfter = true then v.closeRun else v) ∧
  (∀ (o : NeedleOutcome) (a : Action),
     resultOf o a = match o, a with
       | .done, .miss => .none
       | .done, .tuck => .tuck
       | .done, .knit => .loop
       | .done, .xfer => .top
       | .done, .recv => .top
       | _, _ => .failed)

/-- R96, R100, R101, R102, R103, R104: a peer's CLAIM for a bound row marks its needles heard, and looped when
its result is LOOP, up to the end of the bed, and counts on its page; the other page stays; and what a LOOP
claim of a run of needles adds to the two counts of its page. -/
def Obligations.ClaimUpdatesThePageOfItsRow : Prop :=
  (∀ (s : State) (row : Word16),
     (∀ p, s.claim.pageOf row = some p →
       p.row = row ∧ (s.claim.page0 = some p ∨ s.claim.page1 = some p)) ∧
     (s.claim.pageOf row = none → (∀ p, s.claim.page0 = some p → p.row ≠ row) ∧
       ∀ p, s.claim.page1 = some p → p.row ≠ row)) ∧
  (∀ (sender : StationNo) (b : ClaimBody) (s : State), s.hears = true → sender ≠ s.ctl.station →
     ∃ t, exec (.claim sender b) s = .next t ∧
       (s.claim.pageOf b.row = none → SameExcept noticeParts s t) ∧
       (∀ p, s.claim.pageOf b.row = some p →
         if s.width ≤ b.first.toNat ∨ b.count = 0 ∨ 4 < b.result.toNat then
           SameExcept (.counts :: noticeParts) s t ∧ CountsExcept [.claimsOutOfRange] s t ∧
           t.count .claimsOutOfRange = min (s.count .claimsOutOfRange + 1) 65535
         else
           SameExcept ([.pages, .counts] ++ noticeParts) s t ∧ CountsExcept [.claimsApplied] s t ∧
           t.count .claimsApplied = min (s.count .claimsApplied + 1) 65535 ∧
           OtherPageKept b.row s t ∧
           ∃ p', t.claim.pageOf b.row = some p' ∧
             p' = p.apply sender b.first.toNat (min b.count.toNat (s.width - b.first.toNat))
               (b.result == 1) ∧
             p'.listen = p.listen ∧
             p'.entries.length = p.entries.length ∧
             ∀ n < p.entries.length,
               (let e := p.entry n
                let e' := p'.entry n
                let claimed := b.first.toNat ≤ n ∧ n < b.first.toNat + b.count.toNat ∧ n < s.width
                e'.own = e.own ∧
                (¬ claimed → e' = e) ∧
                (claimed → ∀ k : Nat, k < 16 →
                  e'.heard.getLsbD k = (e.heard.getLsbD k || decide (k = sender.toNat)) ∧
                  e'.looped.getLsbD k =
                    (e.looped.getLsbD k || (decide (k = sender.toNat) && b.result == 1)))))) ∧
  (∀ (p : Page) (sender : StationNo) (lo k : Nat), lo + k ≤ p.entries.length →
     (let q := p.apply sender lo k true
      let joined (n : Nat) : Bool := !(p.entry n).looped.getLsbD sender.toNat
      let needles := (List.range k).map (lo + ·)
      q.doubles =
        min (p.doubles + needles.countP fun n => joined n && (p.entry n).looped != 0) 65535 ∧
      (p.listen.getLsbD sender.toNat = false → q.lateDoubles = p.lateDoubles) ∧
      (p.listen.getLsbD sender.toNat = true → q.lateDoubles =
        min (p.lateDoubles + needles.countP fun n => joined n && (p.entry n).own == .loop) 65535)) ∧
     (p.apply sender lo k false).doubles = p.doubles ∧
     (p.apply sender lo k false).lateDoubles = p.lateDoubles)

/-- R89, R90, R91, R93, R94, R156: a result handed to the open run extends it when it is the same result; a
differing one closes it first and starts a run of one. A run that reaches the run limit or the far end of the
window closes. A run that closes is counted and offered as a CLAIM of its lowest needle, count and result; with
the transmit list full it is dropped, which sets CLAIMS DROPPED. -/
def Obligations.ResultExtendsTheOpenRun : Prop :=
  (∀ (s : State) (a : Active) (n : Nat) (x : NeedleResult) (r : SetupRec),
    s.setup? = some r → s.course.active = some a →
    (let t := s.handRun a n x
     let far := match a.travel with | .right => a.order.winLast | .left => a.order.winFirst
     let run : OpenRun := match s.claim.run with
       | some y => if y.result = x then { y with last := n, count := y.count + 1 }
                   else { first := n, last := n, count := 1, result := x }
       | none => { first := n, last := n, count := 1, result := x }
     (∀ y, s.claim.run = some y → y.result ≠ x → t = s.closeRun.handRun a n x) ∧
     ((∀ y, s.claim.run = some y → y.result = x) →
       (let u := s.setClaim { s.claim with run := some run }
        (run.count < r.runLimit → n ≠ far → t = u) ∧
        (r.runLimit ≤ run.count ∨ n = far → t = u.closeRun))) ∧
     (∀ y, s.claim.run = some y → y.result ≠ x →
       (s.line.list.length < 16 →
         Notice.claim a.order.pass a.order.row (min y.first y.last) y.count y.result ∈ t.line.list) ∧
       (16 ≤ s.line.list.length → t.isCourseFlag .claimsDropped = true)) ∧
     (run.count < r.runLimit → n ≠ far → t.claim.run = some run) ∧
     (r.runLimit ≤ run.count ∨ n = far → t.claim.run = none ∧
       (Notice.claim a.order.pass a.order.row (min run.first run.last) run.count run.result ∈
          t.line.list ∨ 16 ≤ t.line.list.length)))) ∧
  (∀ (s : State) (a : Active) (y : OpenRun), s.course.active = some a → s.claim.run = some y →
    (let t := s.closeRun
     let claim := Notice.claim a.order.pass a.order.row (min y.first y.last) y.count y.result
     t.claim.run = none ∧ t.count .claimsFormed = min (s.count .claimsFormed + 1) 65535 ∧
     (s.line.list.length < 16 →
       SameExcept [.openRun, .transmitList, .counts] s t ∧ CountsExcept [.claimsFormed] s t ∧
       Joined claim s.line.list t.line.list) ∧
     (16 ≤ s.line.list.length →
       SameExcept [.openRun, .courseFlags, .counts] s t ∧
       t.isCourseFlag .claimsDropped = true ∧ FlagsExcept [.claimsDropped] s t ∧
       CountsExcept [.claimsFormed, .claimDrops] s t ∧
       t.count .claimDrops = min (s.count .claimDrops + 1) 65535)))

/-! ### The head -/

/-- R110, R111, R112, R116: a request is judged at its hand-over by the checks of R110 in order: head
DISABLED, rail LOW, a fire in flight (it becomes the pending request, and the one before it is LOST), at its
height already (DONE); else a fire starts, whose deadline is the fire deadline of the setup record, in units
of 10 microseconds. -/
def Obligations.RequestIsJudgedByTheTable : Prop :=
  (∀ (s : State) (r : SetupRec), s.setup? = some r → s.fireTime = r.fireDeadline * 10) ∧
  ∀ (s : State) (n : Nat) (h : Height) (travel : Dir),
    (let t := s.request n h travel
     let answered (o : NeedleOutcome) : Prop :=
       SameExcept [.outcomes] s t ∧ t.dec.outcomes = s.dec.outcomes.map (resolveEntry n o)
     if s.head.disabled = true then answered .disabled
     else if s.head.railGood = false then
       (if s.head.height = some h then answered .done else answered .rail)
     else if s.head.fire ≠ none then
       SameExcept [.headWaiting, .outcomes] s t ∧
       t.head.waiting = some { needle := n, target := h, travel := travel } ∧
       (s.head.waiting = none → t.dec.outcomes = s.dec.outcomes) ∧
       (∀ old, s.head.waiting = some old →
         t.dec.outcomes = s.dec.outcomes.map (resolveEntry old.needle .lost))
     else if s.head.height = some h then answered .done
     else
       SameExcept [.headHeight, .headCode, .headFire, .counts] s t ∧ t.head.height = none ∧
       t.head.code = h ∧
       t.head.fire = some { target := h, needle := some n, deadline := s.fireTime } ∧
       t.count .firesStarted = min (s.count .firesStarted + 1) 65535 ∧
       CountsExcept [.firesStarted] s t)

/-- R113, R115, R117: a head confirm with no fire in flight is stray and only counted. One that ends a fire
zeroes the fault count, answers the fire's needle DONE and leaves no request pending: a pending needle that has
passed the selector is answered LOST, one at a disabled head DISABLED, one that needs no move DONE, one with
the rail LOW RAIL, and the head stands at the fire's target with no fire in flight; else a fire starts for
it. A needle has passed when the selector index has reached it in the direction of its course. -/
def Obligations.HeadConfirmEndsTheFire : Prop :=
  (∀ (s : State) (i : Indices) (n : Nat), s.pos.idx = some i →
    (s.passedSelector .right n = true ↔ (n : Int) ≤ i.s) ∧
    (s.passedSelector .left n = true ↔ i.s ≤ (n : Int))) ∧
  ∀ s : State,
    ∃ t, exec .headConfirm s = .next t ∧
      (s.head.fire = none → SameExcept [.counts] s t ∧ CountsExcept [.strayConfirms] s t ∧
        t.count .strayConfirms = min (s.count .strayConfirms + 1) 65535) ∧
      (∀ f, s.head.fire = some f →
        t.head.faults = 0 ∧ t.head.waiting = none ∧
        (let first := match f.needle with
           | some n => answered s.dec.outcomes n .done
           | none => s.dec.outcomes
         (s.head.waiting = none →
           t.head.height = some f.target ∧ t.head.fire = none ∧ t.head.code = s.head.code ∧
           t.dec.outcomes = first ∧
           (f.needle = none → SameExcept [.headHeight, .headFire, .headFaults] s t)) ∧
         (∀ q, s.head.waiting = some q →
           if s.passedSelector q.travel q.needle = true ∨ s.head.disabled = true ∨
               f.target = q.target ∨ s.head.railGood = false then
             t.head.height = some f.target ∧ t.head.fire = none ∧ t.head.code = s.head.code ∧
             t.dec.outcomes = answered first q.needle
               (if s.passedSelector q.travel q.needle = true then .lost
                else if s.head.disabled = true then .disabled
                else if f.target = q.target then .done
                else .rail)
           else
             t.head.height = none ∧ t.head.code = q.target ∧ t.dec.outcomes = first ∧
             t.head.fire = some { target := q.target, needle := some q.needle,
                                  deadline := s.fireTime })))

/-- R114, R115, R117, R118: a fire deadline with no fire in flight changes nothing. One that ends a fire sets
FIRE FAULT, is counted, answers the fire's needle FAULT, raises the fault count, and leaves the height unknown
and no request pending; at the fault limit it disables the head and sets the latch. A pending needle that has
passed the selector is answered LOST, one at a head then disabled DISABLED, one with the rail LOW RAIL; else a
fire starts for it. -/
def Obligations.FireDeadlineCountsAFault : Prop :=
  ∀ s : State,
    ∃ t, exec .fireDeadline s = .next t ∧
      (s.head.fire = none → t = s) ∧
      (∀ f, s.head.fire = some f →
        t.head.faults = s.head.faults + 1 ∧ t.head.height = none ∧ t.head.waiting = none ∧
        t.isSticky .fireFault = true ∧ StickyExcept [.fireFault] s t ∧
        t.count .fireDeadlines = min (s.count .fireDeadlines + 1) 65535 ∧
        (let reached := match s.setup? with
           | some r => decide (r.faultLimit ≤ s.head.faults + 1)
           | none => false
         let first := match f.needle with
           | some n => answered s.dec.outcomes n .fault
           | none => s.dec.outcomes
         t.head.disabled = (s.head.disabled || reached) ∧
         (reached = true → t.isRecorded .headDisabled = true ∧ t.ctl.latch = true) ∧
         (reached = false → SameExcept ([.headHeight, .headCode, .headFire, .headWaiting, .headFaults,
           .sticky] ++ leaveParts) s t) ∧
         (s.head.waiting = none → t.head.fire = none ∧ t.dec.outcomes = first) ∧
         (∀ q, s.head.waiting = some q →
           if s.passedSelector q.travel q.needle = true ∨ s.head.disabled = true ∨ reached = true ∨
               s.head.railGood = false then
             t.head.fire = none ∧
             t.dec.outcomes = answered first q.needle
               (if s.passedSelector q.travel q.needle = true then .lost
                else if s.head.disabled = true ∨ reached = true then .disabled
                else .rail)
           else t.dec.outcomes = first ∧
             t.head.fire = some { target := q.target, needle := some q.needle,
                                  deadline := s.fireTime })))

/-- R120, R121, R122: a change of the rail input moves only the filter, whose held time starts anew; the
filter's expiry makes the rail state the level of the input. A rail that becomes GOOD ends the rail cause; one
that becomes LOW raises it, records RAIL LOW, sets the latch and is counted. -/
def Obligations.RailFilterSettlesTheRail : Prop :=
  ∀ (level : Bool) (s : State),
    (∃ t, exec (.railInputChange level) s = .next t ∧ SameExcept [.railLevel, .railHeld] s t ∧
      t.head.railLevel = level ∧ (level ≠ s.head.railLevel → t.head.railHeld = 0)) ∧
    (∃ t, exec .railFilterExpiry s = .next t ∧ t.head.railGood = s.head.railLevel ∧
      (s.head.railLevel = s.head.railGood → SameExcept [.railHeld] s t) ∧
      (s.head.railLevel = true → s.head.railGood = false →
        SameExcept [.railGood, .railHeld, .railCause] s t ∧ t.head.railCause = false) ∧
      (s.head.railLevel = false → s.head.railGood = true →
        SameExcept [.railGood, .railHeld, .railCause, .causes, .latch, .counts] s t ∧
        t.head.railCause = true ∧ t.ctl.latch = true ∧ t.isRecorded .railLow = true ∧
        CausesExcept [.railLow] s t ∧ CountsExcept [.railDrops] s t ∧
        t.count .railDrops = min (s.count .railDrops + 1) 65535))

/-! ### Yarn carriers -/

/-- R128, R129, R139: a PLACE, TAKE, PICK or PARK of a carrier number above 15 is ignored and counted. A PLACE
of the carrier on the pin is refused and sets PLACE REFUSED; else the record becomes UNKNOWN or parked at the
clamped needle, with no reservation, and no other record changes. A course carrier that waits is judged by the
change of its place, with the model's choices and readings for it (log 10, 11, 24, 32). -/
def Obligations.PlaceSetsTheRecord : Prop :=
  (∀ (q : StationNo) (pass : Word16) (k : Byte) (x : Word16) (s : State), s.hears = true →
    15 < k.toNat →
    (∃ t, exec (.place k x) s = .next t ∧ CarrierIgnored s t) ∧
    (q ≠ s.ctl.station →
      (∃ t, exec (.take q pass k) s = .next t ∧ CarrierIgnored s t) ∧
      (∃ t, exec (.pick q pass k) s = .next t ∧ CarrierIgnored s t) ∧
      (∃ t, exec (.park q pass k x) s = .next t ∧ CarrierIgnored s t))) ∧
  (∀ (k : Byte) (x : Word16) (s : State) (c : Fin 16), s.hears = true → k.toNat = c.val →
    ∃ t, exec (.place k x) s = .next t ∧
      (s.carr.pin.carrierOn = some c →
        SameExcept (.sticky :: noticeParts) s t ∧ t.isSticky .placeRefused = true ∧
        StickyExcept [.placeRefused] s t) ∧
      (s.carr.pin.carrierOn ≠ some c →
        t.carrier c = ⟨if x.toInt = -32768 then .unknown
          else .parked (max (-64) (min x.toInt (s.width + 63))), none⟩ ∧
        (∀ d, d ≠ c → t.carrier d = s.carrier d) ∧
        SameExcept noticeParts (s.record c (if x.toInt = -32768 then .unknown
          else .parked (max (-64) (min x.toInt (s.width + 63)))) none) t ∧
        (s.carr.course = none → SameExcept (.carrierTable :: noticeParts) s t)))

/-- R130, R135, R139, R157: a TAKE from another station is judged against the reservation; an own TAKE that
waits for the same carrier and pass is withdrawn, its standby take becomes DENIED, and so does a course that
waits on it with no engagement in flight. A TAKE waits while it is in the transmit list and is not being sent;
the other notices of the list stay, and so does a take for another carrier or pass. -/
def Obligations.TakeReservesTheCarrier : Prop :=
  ∀ (q : StationNo) (pass : Word16) (k : Byte) (c : Fin 16) (s : State),
    q ≠ s.ctl.station → k.toNat = c.val → s.hears = true →
    ∃ t, exec (.take q pass k) s = .next t ∧
      (t.carrier c).place = (s.carrier c).place ∧ (∀ d, d ≠ c → t.carrier d = s.carrier d) ∧
      (let rival := ∃ v, (s.carrier c).reserved = some ⟨pass, v⟩ ∧ v ≠ q
       (rival → (t.carrier c).reserved = (s.carrier c).reserved ∧
         t.count .carrierConflicts = min (s.count .carrierConflicts + 1) 65535) ∧
       (¬ rival → (t.carrier c).reserved = some ⟨pass, q⟩ ∧
         t.count .carrierConflicts = s.count .carrierConflicts)) ∧
      (let waits := Notice.take pass c ∈ s.line.list ∧ s.line.sending ≠ some (.take pass c)
       (¬ waits → SameExcept ([.carrierTable, .counts] ++ noticeParts) s t ∧
         CountsExcept [.carrierConflicts] s t) ∧
       (waits → SameExcept ([.carrierTable, .standbyTake, .courseCarrier, .courseFlags, .transmitList,
           .counts, .causes, .latch] ++ noticeParts) s t ∧
         t.line.list = s.line.list.filter (fun n => decide (n ≠ .take pass c)) ∧
         CountsExcept [.takesWithdrawn, .carrierConflicts] s t ∧
         t.count .takesWithdrawn = min (s.count .takesWithdrawn + 1) 65535 ∧
         TakeLost s t c pass))

/-- R128, R131, R132, R139, R143: a PICK or a PARK from another station for the carrier on the own pin is a
counted conflict and leaves the record; else a PICK makes the carrier held by the sender, and a PARK puts it
at the clamped needle or UNKNOWN and clears a reservation of its pass, and a course carrier that waits is
judged by the change of its place, with the model's choices and readings for it (log 10, 11, 24, 32). A PICK
makes a course HELD that waits for it from that partner; that it does so for the carrier on the own pin too is
the model's reading (log 29). -/
def Obligations.PickAndParkMoveTheCarrier : Prop :=
  ∀ (q : StationNo) (pass : Word16) (k : Byte) (c : Fin 16) (x : Word16) (s : State),
    q ≠ s.ctl.station → k.toNat = c.val → s.hears = true →
    (∃ t, exec (.pick q pass k) s = .next t ∧ (∀ d, d ≠ c → t.carrier d = s.carrier d) ∧
      (t.carrier c).reserved = (s.carrier c).reserved ∧
      (s.carr.pin.carrierOn = some c → t.carrier c = s.carrier c ∧
        t.count .carrierConflicts = min (s.count .carrierConflicts + 1) 65535) ∧
      (s.carr.pin.carrierOn ≠ some c → (t.carrier c).place = .held q ∧ t.counts = s.counts) ∧
      (s.carr.course = none → SameExcept ([.carrierTable, .counts] ++ noticeParts) s t) ∧
      SameExcept ([.carrierTable, .counts, .courseCarrier] ++ noticeParts) s t ∧
      (∀ cc, s.carr.course = some cc →
        (cc.source = .partner q → cc.state = .waiting → cc.carrier = c → cc.pass = pass →
          t.carr.course = some { cc with state := .held }) ∧
        (cc.source ≠ .partner q ∨ cc.state ≠ .waiting ∨ cc.carrier ≠ c ∨ cc.pass ≠ pass →
          t.carr.course = some cc))) ∧
    (∃ t, exec (.park q pass k x) s = .next t ∧ (∀ d, d ≠ c → t.carrier d = s.carrier d) ∧
      (s.carr.pin.carrierOn = some c →
        t.count .carrierConflicts = min (s.count .carrierConflicts + 1) 65535 ∧
        CountsExcept [.carrierConflicts] s t ∧ SameExcept (.counts :: noticeParts) s t) ∧
      (s.carr.pin.carrierOn ≠ some c →
        (t.carrier c).place = (if x.toInt = -32768 then .unknown
          else .parked (max (-64) (min x.toInt (s.width + 63)))) ∧
        (t.carrier c).reserved =
          (match (s.carrier c).reserved with
           | some v => if v.pass = pass then none else some v
           | none => none) ∧
        SameExcept noticeParts (s.record c (if x.toInt = -32768 then .unknown
          else .parked (max (-64) (min x.toInt (s.width + 63)))) (clearedFor pass (s.carrier c).reserved)) t ∧
        (s.carr.course = none → SameExcept (.carrierTable :: noticeParts) s t)))

/-- R50, R54, R136 to R139, R143, R145, R184: a course start forms the course carrier from the standby take,
the record and the pin index, or from its partner. While a SELF carrier waits, the pin index coming to its
expected needle engages it, holds it back while the pin is busy, or misses it, as its take and place are; one
it passes in a jump is MISSED; a record that becomes PARKED renews the needle and one that becomes UNKNOWN
without a needle is MISSED; a take that becomes DENIED denies it while no engagement is in flight; and the pin
becoming RELEASED judges it again, which sets no course flag, the operation being one of an earlier course;
that it records no stop cause either is the model's reading (log 33). The model's choices are also that the
move of the pin index and the change of a record are judged while the engagement of the running course is in
flight (log 11), and that a record that becomes PARKED where the pin index stands is reached (log 10). -/
def Obligations.PinIndexEngagesTheCarrier : Prop :=
  (∀ (s : State) (a : Active),
    ∃ u, s.handContext a = u.formCarrier a ∧
      SameExcept [.posRacking, .posIndices, .rowChoice, .cleanRead, .float, .openRun, .pages] s u ∧
      u.pos.racking = a.order.racking ∧ u.pos.idx = u.indicesNow ∧ u.course.choice = none ∧
      u.course.cleanRead = false ∧ u.dec.float = 0 ∧ u.claim.run = none) ∧
  (∀ (s : State) (a : Active),
    (let t := s.formCarrier a
     let form (c : Fin 16) (take : Option TakeState) (x : Option Int) (st : CarrierState) :
         CourseCarrier :=
       { carrier := c, source := a.order.source, pass := a.order.pass, travel := a.travel,
         winFirst := a.order.winFirst, winLast := a.order.winLast, take := take, expected := x,
         state := st }
     t.carr.standbyTake = none ∧
     (a.order.carrier = none → t.carr.course = none ∧ SameExcept [.standbyTake, .courseCarrier] s t) ∧
     (∀ c q, a.order.carrier = some c → a.order.source = .partner q →
       SameExcept [.standbyTake, .courseCarrier] s t ∧
       t.carr.course = some (form c none none
         (if (s.carrier c).place = .held q ∧ (s.carrier c).reserved = some ⟨a.order.pass, q⟩
          then .held else .waiting))) ∧
     (∀ c y i, a.order.carrier = some c → a.order.source = .own → s.carr.standbyTake = some y →
       s.pos.idx = some i →
       (y.state = .denied → t.carr.course = some (form c (some .denied) none .denied) ∧
         Flagged s t .carrierDenied .carrierDenied ∧ t.carr.pin = s.carr.pin) ∧
       (y.state ≠ .denied →
         ((s.carrier c).place = .unknown → t.carr.course = some (form c (some y.state) none .missed) ∧
           Flagged s t .carrierMissed .carrierMissed ∧ t.carr.pin = s.carr.pin) ∧
         (∀ q, (s.carrier c).place = .held q →
           t.carr.course = some (form c (some y.state) none .waiting) ∧
           t.course.flags = s.course.flags ∧ t.carr.pin = s.carr.pin) ∧
         (∀ x, (s.carrier c).place = .parked x →
           (Beyond a.travel i.p x → t.carr.course = some (form c (some y.state) (some x) .missed) ∧
             Flagged s t .carrierMissed .carrierMissed ∧ t.carr.pin = s.carr.pin) ∧
           (ShortOf a.travel i.p x → t.carr.course = some (form c (some y.state) (some x) .waiting) ∧
             t.course.flags = s.course.flags ∧ t.carr.pin = s.carr.pin) ∧
           (i.p = x → y.state = .queued → s.carr.pin = .released →
             t.carr.course = some (form c (some .queued) (some x) .missed) ∧
             Flagged s t .carrierMissed .carrierMissed ∧ t.carr.pin = s.carr.pin) ∧
           (i.p = x → y.state = .made → s.ctl.owner = true →
             t.carr.course = some (form c (some .made) (some x) .waiting) ∧
             t.course.flags = s.course.flags ∧
             t.carr.pin = (if s.carr.pin = .released then .engaging c a.order.pass s.fireTime true
               else s.carr.pin))))))) ∧
  (∀ (s : State) (cc : CourseCarrier) (x old new : Int),
    s.carr.course = some cc → cc.source = .own → cc.state = .waiting → cc.expected = some x →
    ShortOf cc.travel old x →
    (let t := s.judgeMove old new
     let missed := t.carr.course = some { cc with state := .missed } ∧ t.carr.pin = s.carr.pin ∧
       Flagged s t .carrierMissed .carrierMissed ∧
       SameExcept [.courseCarrier, .courseFlags, .causes, .latch] s t
     (ShortOf cc.travel new x → t = s) ∧
     (Beyond cc.travel new x → missed) ∧
     (new = x → (s.carrier cc.carrier).place = .unknown → s.carr.pin = .released → missed) ∧
     (∀ q, new = x → (s.carrier cc.carrier).place = .held q → q ≠ s.ctl.station →
       s.carr.pin = .released → missed) ∧
     (∀ y, new = x → (s.carrier cc.carrier).place = .parked y → cc.take = some .queued →
       s.carr.pin = .released → missed) ∧
     (∀ y, new = x → (s.carrier cc.carrier).place = .parked y → cc.take = some .made →
       s.ctl.owner = true →
       t = if s.carr.pin = .released then s.setPin (.engaging cc.carrier cc.pass s.fireTime true)
         else s))) ∧
  (∀ (s : State) (cc : CourseCarrier) (i : Indices) (res : Option Reservation),
    s.carr.course = some cc → cc.source = .own → cc.state = .waiting → s.pos.idx = some i →
    (∀ (c : Fin 16) (y : Place) (f : Bool), c ≠ cc.carrier →
      SameExcept [.carrierTable] s (s.record c y res f)) ∧
    (∀ (x : Int) (f : Bool), (s.carrier cc.carrier).place ≠ .parked x →
      (let t := s.record cc.carrier (.parked x) res f
       (ShortOf cc.travel i.p x → t.carr.course = some { cc with expected := some x } ∧
         t.course.flags = s.course.flags) ∧
       (Beyond cc.travel i.p x →
         t.carr.course = some { cc with expected := some x, state := .missed } ∧
         t.carr.pin = s.carr.pin ∧ (f = true → Flagged s t .carrierMissed .carrierMissed) ∧
         (f = false → SameExcept [.carrierTable, .courseCarrier] s t)) ∧
       (i.p = x → cc.take = some .made → s.ctl.owner = true → s.carr.pin = .released →
         t.carr.course = some { cc with expected := some x } ∧
         t.carr.pin = .engaging cc.carrier cc.pass s.fireTime true))) ∧
    (∀ f : Bool, (s.carrier cc.carrier).place ≠ .unknown →
      (let t := s.record cc.carrier .unknown res f
       (cc.expected = none → t.carr.course = some { cc with state := .missed } ∧
         t.carr.pin = s.carr.pin ∧ (f = true → Flagged s t .carrierMissed .carrierMissed) ∧
         (f = false → SameExcept [.carrierTable, .courseCarrier] s t)) ∧
       (∀ x, cc.expected = some x → ShortOf cc.travel i.p x → t.carr.course = some cc))) ∧
    (∀ q, (∀ x, cc.expected = some x → ShortOf cc.travel i.p x) →
      (s.record cc.carrier (.held q) res).carr.course = some cc) ∧
    (cc.take = some .denied → s.carr.pin.engagingForCourse = false →
      s.judgeTake.carr.course = some { cc with state := .denied } ∧
      Flagged s s.judgeTake .carrierDenied .carrierDenied) ∧
    (∀ x y, cc.expected = some x → (s.carrier cc.carrier).place = .parked y → cc.take = some .made →
      s.ctl.owner = true → s.carr.pin = .released →
      (ShortOf cc.travel i.p x → s.judgeFree = s) ∧
      (i.p = x → s.judgeFree = s.setPin (.engaging cc.carrier cc.pass s.fireTime true)) ∧
      (Beyond cc.travel i.p x → s.judgeFree = s.setCourseCarrier { cc with state := .missed })) ∧
    (cc.expected = some i.p → s.carr.pin = .released →
      (s.carrier cc.carrier).place = .unknown ∨ cc.take = some .queued ∨
        (∃ q, (s.carrier cc.carrier).place = .held q ∧ q ≠ s.ctl.station) →
      s.judgeFree = s.setCourseCarrier { cc with state := .missed }))

/-- R134, R156: the standby take of an order that enters STANDBY: none unless the order takes a carrier from the
own pin; else MADE, QUEUED or DENIED by the reservation, by a TAKE that already waits, and by the room in
the transmit list, where a new TAKE joins or is counted as dropped. -/
def Obligations.StandbyTakeFollowsTheTable : Prop :=
  ∀ (s : State) (o : Order),
    (let t := s.standbyTakeFor o
     (o.carrier = none ∨ o.source ≠ .own →
       t.carr.standbyTake = none ∧ SameExcept [.standbyTake] s t) ∧
     (∀ c, o.carrier = some c → o.source = .own →
       (let taken (x : TakeState) : Prop := t.carr.standbyTake = some ⟨c, o.pass, x⟩
        let res := (s.carrier c).reserved
        let waits := Notice.take o.pass c ∈ s.line.list
        SameExcept [.standbyTake, .transmitList, .counts] s t ∧
        (res = some ⟨o.pass, s.ctl.station⟩ → taken .made ∧ t.line = s.line) ∧
        (res ≠ some ⟨o.pass, s.ctl.station⟩ → waits → taken .queued ∧ t.line = s.line) ∧
        (∀ v, res = some ⟨o.pass, v⟩ → v ≠ s.ctl.station → ¬ waits →
          taken .denied ∧ t.line = s.line) ∧
        ((∀ v, res ≠ some ⟨o.pass, v⟩) → ¬ waits → s.line.list.length < 16 →
          taken .queued ∧ Joined (.take o.pass c) s.line.list t.line.list ∧ t.counts = s.counts) ∧
        ((∀ v, res ≠ some ⟨o.pass, v⟩) → ¬ waits → 16 ≤ s.line.list.length →
          taken .denied ∧ t.line = s.line ∧ CountsExcept [.takeDrops] s t ∧
          t.count .takeDrops = min (s.count .takeDrops + 1) 65535))))

/-- R133, R140, R141, R142, R145, R146, R156: a pin confirm with no operation in flight is stray and only
counted. One that ends an engagement makes the carrier held by the station and, places the PICK; it makes the
running course HELD (one MISSED meanwhile stays MISSED: log 11; one whose place a notice changed meanwhile is
HELD: log 32), and the carrier is released at once when the drop point is reached or the course has ended. One
that ends a release parks the carrier at the drop needle and places the PARK, and one that ends a silent
release leaves records and line; a carrier that waits is then judged (log 10, 24), and neither sets a course
flag, nor records a stop cause (log 33). A notice placed at a full list is dropped and counted. The drop
needle is the pin index clamped to the rail. At a change of the pin index the carrier of a HELD course is
released when the drop point is reached. -/
def Obligations.PinConfirmEndsTheOperation : Prop :=
  (∀ (s : State) (i : Indices), s.pos.idx = some i →
    s.dropNeedle = max (-64) (min i.p ((s.width : Int) + 63))) ∧
  (∀ (s : State) (r : SetupRec), s.setup? = some r → s.fireTime = r.fireDeadline * 10) ∧
  (∀ (p : Word16) (v : Option Reservation),
    clearedFor p v = (match v with | some y => if y.pass = p then none else v | none => none)) ∧
  (∀ s : State,
    ∃ t, exec .pinConfirm s = .next t ∧
      (s.carr.pin.carrierOn = none → (∀ c p d o, s.carr.pin ≠ .engaging c p d o) →
        SameExcept [.counts] s t ∧ CountsExcept [.strayPinConfirms] s t ∧
        t.count .strayPinConfirms = min (s.count .strayPinConfirms + 1) 65535) ∧
      (∀ c p, s.carr.pin = .engaged c p →
        SameExcept [.counts] s t ∧ CountsExcept [.strayPinConfirms] s t ∧
        t.count .strayPinConfirms = min (s.count .strayPinConfirms + 1) 65535) ∧
      (∀ c p d o, s.carr.pin = .engaging c p d o →
        SameExcept [.pin, .carrierTable, .courseCarrier, .transmitList, .counts] s t ∧
        t.carrier c = ⟨.held s.ctl.station, (s.carrier c).reserved⟩ ∧
        (∀ k, k ≠ c → t.carrier k = s.carrier k) ∧
        Placed (.pick p c) .pickDrops s.line.list s t ∧ CountsExcept [.pickDrops] s t ∧
        (o = false → t.carr.pin = .releasing c p s.fireTime false ∧ t.carr.course = s.carr.course) ∧
        (o = true → ∀ cc, s.carr.course = some cc →
          (cc.state = .missed → t.carr.course = some cc ∧ t.carr.pin = .engaged c p) ∧
          (cc.state ≠ .missed → t.carr.course = some { cc with state := .held } ∧
            (t.carr.pin = .engaged c p ∨ t.carr.pin = .releasing c p s.fireTime false)) ∧
          (cc.state ≠ .missed → cc.source = .own → ∀ r i, s.setup? = some r → s.pos.idx = some i →
            (AtDrop cc r.drop i.p → t.carr.pin = .releasing c p s.fireTime false) ∧
            (¬ AtDrop cc r.drop i.p → t.carr.pin = .engaged c p)))) ∧
      (∀ c p d o, s.carr.pin = .releasing c p d o →
        SameExcept [.pin, .carrierTable, .courseCarrier, .transmitList, .counts] s t) ∧
      (∀ c p d, s.carr.pin = .releasing c p d false →
        t.carrier c = ⟨.parked s.dropNeedle, clearedFor p (s.carrier c).reserved⟩ ∧
        SameExcept [.transmitList, .counts] (((s.setPin .released).record c (.parked s.dropNeedle)
          (clearedFor p (s.carrier c).reserved) false).judgeFree) t ∧
        Placed (.park p c (some s.dropNeedle)) .parkDrops s.line.list s t ∧
        CountsExcept [.parkDrops] s t ∧
        (s.carr.course = none → t.carr.pin = .released)) ∧
      (∀ c p d, s.carr.pin = .releasing c p d true →
        t.carr.table = s.carr.table ∧ t.line = s.line ∧ t = (s.setPin .released).judgeFree ∧
        (s.carr.course = none → t.carr.pin = .released))) ∧
  (∀ (s : State) (cc : CourseCarrier) (c : Fin 16) (p : Word16) (r : SetupRec) (i : Indices),
    s.carr.pin = .engaged c p → s.carr.course = some cc → cc.source = .own → cc.state = .held →
    s.setup? = some r → s.pos.idx = some i →
    (AtDrop cc r.drop i.p → s.judgeDrop = s.setPin (.releasing c p s.fireTime false)) ∧
    (¬ AtDrop cc r.drop i.p → s.judgeDrop = s))

/-- R133, R140, R142, R145, R146, R156: a deadline with its operation in flight sets PIN FAULT and is counted;
the carrier's place becomes UNKNOWN, a reservation of the pass is cleared, and a PARK without a needle is
placed, or dropped and counted at a full list, but a silent release leaves records and line. The engagement of
the running course makes its carrier FAULT with the flag CARRIER FAULT and its stop cause; an operation of an
ended course lets a carrier that waits be judged again and sets no course flag, nor records a stop cause (log
33). Without the operation the event changes nothing. -/
def Obligations.PinDeadlineLosesTheCarrier : Prop :=
  ∀ s : State,
    (∃ t, exec .engagementDeadline s = .next t ∧
      ((∀ c p d o, s.carr.pin ≠ .engaging c p d o) → t = s) ∧
      (∀ c p d o, s.carr.pin = .engaging c p d o →
        t.carrier c = ⟨.unknown, clearedFor p (s.carrier c).reserved⟩ ∧
        t.isSticky .pinFault = true ∧ StickyExcept [.pinFault] s t ∧
        t.count .pinDeadlines = min (s.count .pinDeadlines + 1) 65535 ∧
        Placed (.park p c none) .parkDrops s.line.list s t ∧
        CountsExcept [.pinDeadlines, .parkDrops] s t ∧
        (o = true → ∀ cc, s.carr.course = some cc →
          t.carr.course = some { cc with state := .fault } ∧ t.carr.pin = .released ∧
          Flagged s t .carrierFault .carrierFault) ∧
        (o = false →
          SameExcept [.carrierTable, .transmitList, .counts, .sticky, .pin, .courseCarrier] s t ∧
          SameExcept [.transmitList, .counts, .sticky] (((s.setPin .released).record c .unknown
            (clearedFor p (s.carrier c).reserved) false).judgeFree) t) ∧
        (s.carr.course = none → t.carr.pin = .released ∧ t.course.flags = s.course.flags))) ∧
    (∃ t, exec .releaseDeadline s = .next t ∧
      ((∀ c p d o, s.carr.pin ≠ .releasing c p d o) → t = s) ∧
      (∀ c p d o, s.carr.pin = .releasing c p d o →
        SameExcept [.carrierTable, .transmitList, .counts, .sticky, .pin, .courseCarrier] s t ∧
        t.isSticky .pinFault = true ∧ StickyExcept [.pinFault] s t ∧
        t.count .pinDeadlines = min (s.count .pinDeadlines + 1) 65535 ∧
        (o = false → t.carrier c = ⟨.unknown, clearedFor p (s.carrier c).reserved⟩ ∧
          SameExcept [.transmitList, .counts, .sticky] (((s.setPin .released).record c .unknown
            (clearedFor p (s.carrier c).reserved) false).judgeFree) t ∧
          Placed (.park p c none) .parkDrops s.line.list s t ∧
          CountsExcept [.pinDeadlines, .parkDrops] s t) ∧
        (o = true → t.carr.table = s.carr.table ∧ t.line = s.line ∧ CountsExcept [.pinDeadlines] s t ∧
          SameExcept [.counts, .sticky] ((s.setPin .released).judgeFree) t) ∧
        (s.carr.course = none → t.carr.pin = .released ∧ t.course.flags = s.course.flags)))

/-! ### The carriage line -/

/-- R149, R151, R152, R153, R159, R161, R163, R169, R170, R172, R174: the cells of a notice are its bits up to
the end mark, and an illegal cell before it is a symbol error. A TAKE, PICK, PARK or CLAIM that one station
sends is heard by another as the command it is, with every field at every value it can carry. The body of a
REPORT shows its fields as the table lays them out. -/
def Obligations.SentNoticesAreHeardAsSent : Prop :=
  (∀ (bits : List Bool) (cells : List (HeardHalf × HeardHalf)),
    (let data := bits.map fun b => ((some (cellOf b).1 : HeardHalf), (some (cellOf b).2 : HeardHalf))
     receive [] data = .underWay bits ∧
     receive [] (data ++ (some endMark.1, some endMark.2) :: cells) = .ended bits ∧
     receive [] (data ++ (some startMark.1, some startMark.2) :: cells) = .symbolError ∧
     ∀ h, receive [] (data ++ (none, h) :: cells) = .symbolError ∧
       receive [] (data ++ (h, none) :: cells) = .symbolError)) ∧
  (∀ r : Report, r.fits → ReportShows r (Notice.report r).body) ∧
  ∀ (q own : StationNo), q ≠ own →
    (∀ (pass : Word16) (c : Fin 16),
      sortNotice own ((Notice.take pass c).bits q) = [.take q pass (BitVec.ofNat 8 c.val)]) ∧
    (∀ (pass : Word16) (c : Fin 16),
      sortNotice own ((Notice.pick pass c).bits q) = [.pick q pass (BitVec.ofNat 8 c.val)]) ∧
    (∀ (pass : Word16) (c : Fin 16) (x : Option Int), (∀ n, x = some n → -32768 ≤ n ∧ n ≤ 32767) →
      sortNotice own ((Notice.park pass c x).bits q) =
        [.park q pass (BitVec.ofNat 8 c.val) (BitVec.ofInt 16 (x.getD (-32768)))]) ∧
    (∀ (pass row : Word16) (first count : Nat) (x : NeedleResult), first < 65536 → count < 256 →
      sortNotice own ((Notice.claim pass row first count x).bits q) =
        [.claim q { pass := pass, row := row, first := BitVec.ofNat 16 first,
                    count := BitVec.ofNat 8 count, result := BitVec.ofNat 8 x.code }])

/-- R149, R154: of two heads that begin together the higher stands back first, at the first recessive half
that the lower drives dominant. -/
def Obligations.LowestHeadWinsTheLine : Prop :=
  ∀ (common low high : List Bool),
    ∃ i, standsBackAt (halvesOf (common ++ true :: high)) (halvesOf (common ++ false :: low)) = some i ∧
      i = 2 + 2 * common.length ∧
      ∀ j, standsBackAt (halvesOf (common ++ false :: low)) (halvesOf (common ++ true :: high)) = some j →
        i < j

/-- R151, R159, R166, R167: a damaged notice is counted once by its check and in the health monitor's
window, where it may turn the line DEGRADED; and the end of a health window. -/
def Obligations.LineHealthFollowsItsWindows : Prop :=
  (∀ (c : Instr) (k : Counter) (s : State), s.hears = true →
     (c = .lineError .length ∧ k = .lengthErrors ∨ c = .lineError .check ∧ k = .checkErrors ∨
      c = .lineError .classCode ∧ k = .classMismatches ∨
      c = .lineError .bodyLength ∧ k = .lengthErrors ∨ c = .symbolError ∧ k = .symbolErrors) →
     ∃ t, exec c s = .next t ∧ t.count k = min (s.count k + 1) 65535 ∧
       CountsExcept [k, .degradations] s t ∧
       (c = .symbolError → t.line.receiver = .discarding) ∧
       (s.ctl.mode = .setup → SameExcept (.counts :: noticeParts) s t ∧ CountsExcept [k] s t) ∧
       (∀ r, s.setup? = some r →
         t.line.windowErrors = min (s.line.windowErrors + 1) 255 ∧
         (let turns := decide (r.errorThreshold ≤ min (s.line.windowErrors + 1) 255) && !s.line.degraded
          t.line.degraded = (s.line.degraded || turns) ∧
          (turns = true → t.line.cleanWindows = 0 ∧
            t.count .degradations = min (s.count .degradations + 1) 65535 ∧
            (s.running = true → t.isCourseFlag .lineDegraded = true)) ∧
          (turns = false → SameExcept ([.windowErrors, .counts] ++ noticeParts) s t ∧
            CountsExcept [k] s t)))) ∧
  (∀ (s : State) (r : SetupRec), s.setup? = some r → s.line.cleanWindows ≤ 16 →
     ∃ t, exec .lineWindowEnd s = .next t ∧
       SameExcept [.windowErrors, .cleanWindows, .health] s t ∧ t.line.windowErrors = 0 ∧
       (s.line.windowErrors ≠ 0 → t.line.cleanWindows = 0 ∧ t.line.degraded = s.line.degraded) ∧
       (s.line.windowErrors = 0 → t.line.cleanWindows = min (s.line.cleanWindows + 1) 16 ∧
         t.line.degraded = (s.line.degraded && decide (t.line.cleanWindows < 16))))

/-- R160, R161, R163: clashes, foreign notices by the table of R161, and a peer's REPORT and STATUS. That a
station's own number in a peer's command is a clash is the model's choice of where the test stands (log 9). -/
def Obligations.ClashAndForeignNotices : Prop :=
  ∀ (kind from_ : BitVec 5) (q : StationNo) (x : BitVec 176) (y : BitVec 256) (s : State),
    s.hears = true →
    (let station : List (BitVec 5) := [0x00, 0x01, 0x02, 0x08, 0x18, 0x19]
     let node : List (BitVec 5) := [0x03, 0x04, 0x10, 0x11, 0x12, 0x13, 0x1A, 0x1B, 0x1C]
     let foreign := (kind ∉ station ∧ kind ∉ node) ∨ (kind ∈ node ∧ from_.toNat ≠ 31) ∨
       (kind ∈ station ∧ 16 ≤ from_.toNat)
     from_.toNat ≠ s.ctl.station.toNat → foreign →
      ∃ t, exec (.foreignNotice kind from_) s = .next t ∧
        SameExcept ([.counts, .sticky] ++ noticeParts) s t ∧ CountsExcept [.foreignNotices] s t ∧
        t.count .foreignNotices = min (s.count .foreignNotices + 1) 65535 ∧
        StickyExcept [.unsupported] s t ∧
        (kind ∈ station → t.isSticky .unsupported = s.isSticky .unsupported) ∧
        (kind ∉ station → t.isSticky .unsupported = true)) ∧
    (∃ t, exec (.addressClash kind) s = .next t ∧ Clashed s t) ∧
    (from_.toNat = s.ctl.station.toNat →
      ∃ t, exec (.foreignNotice kind from_) s = .next t ∧ Clashed s t) ∧
    (∃ t, exec (.report q x) s = .next t ∧
      (q = s.ctl.station → Clashed s t) ∧ (q ≠ s.ctl.station → SameExcept noticeParts s t)) ∧
    (∃ t, exec (.status q y) s = .next t ∧
      (q = s.ctl.station → Clashed s t) ∧ (q ≠ s.ctl.station → SameExcept noticeParts s t)) ∧
    (∀ (pass : Word16) (k : Byte) (n : Word16) (b : ClaimBody),
      (∃ t, exec (.take s.ctl.station pass k) s = .next t ∧ Clashed s t) ∧
      (∃ t, exec (.pick s.ctl.station pass k) s = .next t ∧ Clashed s t) ∧
      (∃ t, exec (.park s.ctl.station pass k n) s = .next t ∧ Clashed s t) ∧
      (∃ t, exec (.claim s.ctl.station b) s = .next t ∧ Clashed s t))

/-- R150, R151: three idle bit times make a waiting or discarding receiver IDLE, and to an IDLE one they are
the idle time that permits a start; a start mark makes an IDLE one RECEIVING. A receiver that waits for idle
or discards hears no notice, good or damaged. That an IDLE one hears a notice whole, with its start mark, that
the two events change nothing anywhere else, and that an end mark takes a RECEIVING receiver to IDLE, are the
model's choices (log 2, log 4, log 5), as is that RECEIVER_IDLE reports an IDLE receiver that idle time
(log 17). -/
def Obligations.ReceiverFollowsTheLine : Prop :=
  (∀ (c : Instr) (s : State), onTheLine c = true →
    s.line.receiver = .waitIdle ∨ s.line.receiver = .discarding → exec c s = .next s) ∧
  ∀ s : State,
    (s.hears = true ↔ s.line.receiver = .idle ∨ s.line.receiver = .receiving) ∧
    (∃ t, exec .receiverIdle s = .next t ∧
      (s.line.receiver ≠ .receiving →
        SameExcept noticeParts s t ∧ t.line.receiver = .idle ∧ t.line.idleTime = 3) ∧
      (s.line.receiver = .receiving → t = s)) ∧
    (∃ t, exec .startMark s = .next t ∧
      (s.line.receiver = .idle →
        SameExcept noticeParts s t ∧ t.line.receiver = .receiving ∧ t.line.idleTime = 0) ∧
      (s.line.receiver ≠ .idle → t = s)) ∧
    (SameExcept noticeParts s s.endMark ∧ s.endMark.line.idleTime = 0 ∧
      (s.line.receiver = .receiving → s.endMark.line.receiver = .idle) ∧
      (s.line.receiver ≠ .receiving → s.endMark.line.receiver = s.line.receiver))

/-- R135, R150, R154, R155, R157: the start and the ends of a transmission, but the guard's. The send of an
own TAKE reserves its carrier and makes the takes that are QUEUED for it MADE. A start needs the transmitter
QUIET, the guard OK, a notice in the list, and an IDLE receiver with three idle bit times. That the ends
change nothing while nothing is being sent, and that the idle time is the one the receiver's events give, are
the model's choices (log 4, log 17). -/
def Obligations.TransmissionKeepsOrSendsItsNotice : Prop :=
  ∀ (n : Notice) (l : List Notice) (s : State),
    (s.line.list = n :: l → s.line.sending = none → s.line.guardCut = false →
      s.line.receiver = .idle → 3 ≤ s.line.idleTime →
      ∃ t, exec .transmitStart s = .next t ∧
        SameExcept ([.sending, .guardDriven] ++ noticeParts) s t ∧ t.line.sending = some n ∧
        t.line.receiver = .receiving) ∧
    (s.line.list = [] ∨ s.line.sending ≠ none ∨ s.line.guardCut = true ∨ s.line.receiver ≠ .idle ∨
      s.line.idleTime < 3 → exec .transmitStart s = .next s) ∧
    (s.line.sending = some n →
      (∃ t, exec .noticeSent s = .next t ∧ t.line.list = s.line.list.erase n ∧
        t.line.sending = none ∧
        ((∀ p c, n ≠ .take p c) →
          SameExcept ([.transmitList, .sending, .guardOff] ++ noticeParts) s t) ∧
        (∀ p c, n = .take p c →
          t.carrier c = ⟨(s.carrier c).place, some ⟨p, s.ctl.station⟩⟩ ∧
          (∀ d, d ≠ c → t.carrier d = s.carrier d) ∧
          (∀ y, s.carr.standbyTake = some y → t.carr.standbyTake =
            some (if y.carrier = c ∧ y.pass = p ∧ y.state = .queued then { y with state := .made }
              else y)) ∧
          (∀ cc, s.carr.course = some cc → t.carr.course =
            some (if cc.carrier = c ∧ cc.pass = p ∧ cc.take = some .queued
              then { cc with take := some .made } else cc)))) ∧
      (∃ t, exec .arbitrationLost s = .next t ∧ SameExcept [.sending, .guardOff] s t ∧
        t.line.sending = none) ∧
      (∃ t, exec .sendCollision s = .next t ∧ SameExcept [.sending, .guardOff, .counts] s t ∧
        t.line.sending = none ∧ CountsExcept [.sendCollisions] s t ∧
        t.count .sendCollisions = min (s.count .sendCollisions + 1) 65535)) ∧
    (s.line.sending = none → exec .noticeSent s = .next s ∧ exec .arbitrationLost s = .next s ∧
      exec .sendCollision s = .next s)

/-- R135, R157, R164, R165: a guard cut while a notice is sent loses that notice, records GUARD CUT, sets the
latch and is counted, and denies the takes its TAKE was for, that of a waiting course with CARRIER DENIED; the
receiver goes on receiving; the guard's return ends the cut. That with nothing being sent, or the guard OK,
the two events change nothing is the model's choice (log 4). -/
def Obligations.GuardCutsAndReturns : Prop :=
  ∀ (n : Notice) (s : State),
    (s.line.sending = none → exec .guardCut s = .next s) ∧
    (s.line.sending = some n → ∃ t, exec .guardCut s = .next t ∧ t.line.guardCut = true ∧
      t.line.sending = none ∧ t.line.list = s.line.list.erase n ∧ t.ctl.latch = true ∧
      t.isRecorded .guardCut = true ∧ CountsExcept [.guardCuts] s t ∧
      t.count .guardCuts = min (s.count .guardCuts + 1) 65535 ∧
      t.line.receiver = s.line.receiver ∧
      (∀ p c, n = .take p c → TakeLost s t c p)) ∧
    (s.line.guardCut = true → s.line.sending = none →
      ∃ t, exec .guardReturn s = .next t ∧ SameExcept [.guard, .guardOff] s t ∧
        t.line.guardCut = false) ∧
    (s.line.guardCut = false → exec .guardReturn s = .next s)

/-! ### Station control -/

/-- R128, R162, R166, R173, R178, R179, R180: a SETUP taken in SETUP is accepted whole when every field is in
range, and refused whole with the number of the first field that is not; one taken in READY or RUN is ignored
whole and sets LATE SETUP; one for another station changes nothing but the receiver. The record takes each
field of the body, which is read from its bytes by the table of R173, and gives the working width W, 4,096
until then. -/
def Obligations.SetupIsCheckedOnceFieldByField : Prop :=
  (∀ (b : SetupBody) (owner : Bool), RecordOf b owner (SetupBody.record b owner)) ∧
  (∀ l : List Byte, SetupReads l (readSetup l)) ∧
  (∀ s : State, (∀ r, s.setup? = some r → s.width = r.width) ∧ (s.setup? = none → s.width = 4096)) ∧
  (∀ (q : BitVec 5) (b : SetupBody) (s : State), s.hears = true → s.addressed q = true →
     s.ctl.mode = .setup →
     ∃ t, exec (.setup q b) s = .next t ∧
       ((∀ n, SetupBody.fieldInRange b s.ctl.owner n) →
         t.ctl.mode = .ready (SetupBody.record b s.ctl.owner) ∧
         (SetupBody.record b s.ctl.owner).inRange ∧ t.pos.idx = t.indicesNow ∧
         t.line.degraded = false ∧ t.line.windowErrors = 0 ∧ t.line.cleanWindows = 0 ∧
         SameExcept ([.mode, .posIndices, .carrierTable, .health, .windowErrors, .cleanWindows] ++
           noticeParts) s t ∧
         (∀ c : Fin 16, (t.carrier c).reserved = (s.carrier c).reserved ∧
           (∀ x, (s.carrier c).place = .parked x →
             (t.carrier c).place = .parked (min x (b.width.toNat + 63))) ∧
           ((∀ x, (s.carrier c).place ≠ .parked x) → t.carrier c = s.carrier c))) ∧
       (∀ n, ¬ SetupBody.fieldInRange b s.ctl.owner n →
         (∀ m < n, SetupBody.fieldInRange b s.ctl.owner m) →
         SameExcept ([.sticky, .firstBad] ++ noticeParts) s t ∧ t.ctl.firstBad = some n ∧
         t.isSticky .setupRefused = true ∧ StickyExcept [.setupRefused] s t)) ∧
  (∀ (q : BitVec 5) (b : SetupBody) (s : State),
     ∃ t, exec (.setup q b) s = .next t ∧
       (s.addressed q = false → SameExcept noticeParts s t) ∧
       (s.hears = true → s.addressed q = true → s.ctl.mode ≠ .setup →
         SameExcept (.sticky :: noticeParts) s t ∧ t.isSticky .lateSetup = true ∧
         StickyExcept [.lateSetup] s t))

/-- R20, R40, R63, R86, R99, R125, R146, R158, R182: a course reset addressed to the station empties the course
controller, the slots, the outcome list, the claim pages, the carrier records and the course history; the head
keeps no pending request and a fire in flight goes on for no needle; a carrier on the pin is released silently,
its PARK without a needle alone in the transmit list. One addressed elsewhere changes nothing but the
receiver. -/
def Obligations.CourseResetEmptiesTheStation : Prop :=
  ∀ (q : BitVec 5) (s : State),
    ∃ t, exec (.reset q) s = .next t ∧
      (s.addressed q = false → SameExcept noticeParts s t) ∧
      (s.hears = true → s.addressed q = true →
        t.course.queue = [] ∧ t.course.standby = none ∧ t.course.active = none ∧
        t.course.expected = none ∧ t.course.choice = none ∧ t.course.cleanRead = false ∧
        t.course.shadow = none ∧ t.course.flags = 0 ∧ t.course.tally = ⟨0, 0, 0, 0, 0, 0, 0⟩ ∧
        (∀ i : Fin 4, t.rows.slots[i] = none) ∧ t.rows.pinned = none ∧
        t.dec.outcomes = [] ∧ t.dec.float = 0 ∧
        t.claim.page0 = none ∧ t.claim.page1 = none ∧ t.claim.run = none ∧
        t.head.waiting = none ∧ t.head.faults = 0 ∧ t.head.disabled = false ∧
        (∀ f, s.head.fire = some f → t.head.fire = some { f with needle := none }) ∧
        (∀ c, t.carrier c = ⟨.unknown, none⟩) ∧ t.carr.standbyTake = none ∧ t.carr.course = none ∧
        (s.carr.pin = .released → t.carr.pin = .released ∧ t.line.list = []) ∧
        (∀ c p, (s.carr.pin = .engaged c p ∨ ∃ d o, s.carr.pin = .engaging c p d o) →
          t.carr.pin = .releasing c p s.fireTime true ∧ t.line.list = [.park p c none]) ∧
        (∀ c p d o, s.carr.pin = .releasing c p d o →
          t.carr.pin = .releasing c p d true ∧ t.line.list = [.park p c none]) ∧
        t.pos.frontier = none ∧ t.pos.racking = 0 ∧ t.pos.idx = t.indicesNow ∧
        t.ctl.history = Vector.replicate 8 false)

/-- R20, R40, R64, R86, R99, R126, R147, R158, R165, R167, R168, R175, R181, R192: a hard reset, whatever
the state before it. The filter's held time, the idle time and the guard's two times at 0 are the
model's reading (log 3). -/
def Obligations.HardResetGivesTheResetValues : Prop :=
  ∀ (x : BitVec 6) (a b rail : Bool) (s : State),
    ∃ t, exec (.hardReset x a b rail) s = .next t ∧ t.pending = s.pending ∧
      t.pos = { c := 0, phaseA := a, phaseB := b, tracker := .unknown 0 0, referenced := false,
                idx := none, racking := 0, frontier := none } ∧
      (∀ i : Fin 4, t.rows.slots[i] = none) ∧ t.rows.pinned = none ∧
      t.course.queue = [] ∧ t.course.standby = none ∧ t.course.active = none ∧
      t.course.expected = none ∧ t.course.choice = none ∧ t.course.cleanRead = false ∧
      t.course.table = [.knit, .miss] ∧ t.course.phase = 0 ∧ t.course.shadow = none ∧
      t.course.flags = 0 ∧ t.course.tally = ⟨0, 0, 0, 0, 0, 0, 0⟩ ∧ t.course.lastRefusal = none ∧
      t.dec.outcomes = [] ∧ t.dec.float = 0 ∧
      t.claim.page0 = none ∧ t.claim.page1 = none ∧ t.claim.run = none ∧
      t.head.height = none ∧ t.head.code = .low ∧ t.head.fire = none ∧ t.head.waiting = none ∧
      t.head.faults = 0 ∧ t.head.disabled = false ∧ t.head.railGood = false ∧
      t.head.railLevel = rail ∧ t.head.railHeld = 0 ∧ t.head.railCause = false ∧
      (∀ c, t.carrier c = ⟨.unknown, none⟩) ∧ t.carr.pin = .released ∧
      t.carr.standbyTake = none ∧ t.carr.course = none ∧
      t.line.list = [] ∧ t.line.sending = none ∧ t.line.receiver = .waitIdle ∧
      t.line.idleTime = 0 ∧ t.line.driven = 0 ∧ t.line.off = 0 ∧
      t.line.guardCut = false ∧ t.line.degraded = false ∧ t.line.windowErrors = 0 ∧
      t.line.cleanWindows = 0 ∧
      t.ctl.station.toNat = x.toNat % 16 ∧ t.ctl.bedBack = x.getLsbD 4 ∧ t.ctl.owner = x.getLsbD 5 ∧
      t.ctl.mode = .setup ∧ t.ctl.sticky = 0 ∧ t.ctl.causes = 0 ∧ t.ctl.latch = false ∧
      t.ctl.firstBad = none ∧ t.ctl.history = Vector.replicate 8 false ∧ ∀ k, t.count k = 0

/-- R186: a clear-stop releases the latch unless a level cause holds; a clear-sticky clears every sticky flag,
the first bad field, the last refusal reason and every recorded cause but the level causes that still
hold. -/
def Obligations.ClearReleasesLatchAndFlags : Prop :=
  ∀ (q : BitVec 5) (s : State), s.hears = true → s.addressed q = true →
    (let holds := s.head.disabled || s.head.railCause || s.line.guardCut
     (∃ t, exec (.clearStop q) s = .next t ∧
       (holds = true → SameExcept noticeParts s t) ∧
       (holds = false → SameExcept (.latch :: noticeParts) s t ∧ t.ctl.latch = false)) ∧
     (∃ t, exec (.clearSticky q) s = .next t ∧
       SameExcept ([.sticky, .causes, .firstBad, .lastRefusal] ++ noticeParts) s t ∧
       (∀ f, t.isSticky f = false) ∧ t.ctl.firstBad = none ∧ t.course.lastRefusal = none ∧
       t.isRecorded .headDisabled = (s.isRecorded .headDisabled && s.head.disabled) ∧
       t.isRecorded .railLow = (s.isRecorded .railLow && s.head.railCause) ∧
       t.isRecorded .guardCut = (s.isRecorded .guardCut && s.line.guardCut) ∧
       ∀ k, k ≠ .headDisabled → k ≠ .railLow → k ≠ .guardCut → t.isRecorded k = false))

/-- R162, R172, R183, R184, R188 to R191: a QUERY of page 0, 1 or 2 places the parts of its page in order
after every waiting notice, a list with too little room taking the first ones and the rest counted as dropped;
page 1 with the clear flag first zeroes the counters. Each page is laid out byte by byte, flags, causes and
counters in the order of their tables; that the bits of page 0 without a name are 0 is the model's choice (log
21). A QUERY of an unknown page is not answered and sets UNSUPPORTED; a QUERY or CLEAR for another station
changes nothing but the receiver. -/
def Obligations.QueryPlacesThePartsOfItsPage : Prop :=
  (∀ (q : BitVec 5) (clear : Byte) (s : State), s.hears = true → s.addressed q = true →
     (∃ t, exec (.queryPage0 q clear) s = .next t ∧
       Answered s t s.count [.status 0 0 s.page0]) ∧
     (∃ t, exec (.queryPage1 q clear) s = .next t ∧
       Answered s t (if clear = 0 then s.count else fun _ => 0)
         [.status 1 0 (s.page1 0), .status 1 1 (s.page1 1), .status 1 2 (s.page1 2)]) ∧
     (∃ t, exec (.queryPage2 q clear) s = .next t ∧
       Answered s t s.count [.status 2 0 (s.page2 0), .status 2 1 (s.page2 1),
         .status 2 2 (s.page2 2), .status 2 3 (s.page2 3)])) ∧
  (∀ (q : BitVec 5) (page clear : Byte) (s : State),
     ∃ t, exec (.queryUnknownPage q page clear) s = .next t ∧
       (s.hears = true → s.addressed q = true → SameExcept (.sticky :: noticeParts) s t ∧
         t.isSticky .unsupported = true ∧ StickyExcept [.unsupported] s t) ∧
       (s.addressed q = false → SameExcept noticeParts s t ∧
         exec (.queryPage0 q clear) s = .next t ∧ exec (.queryPage1 q clear) s = .next t ∧
         exec (.queryPage2 q clear) s = .next t ∧ exec (.clearStop q) s = .next t ∧
         exec (.clearSticky q) s = .next t)) ∧
  (∀ s : State,
     (s.course.queue.length ≤ 8 → (∀ n, s.ctl.firstBad = some n → n ≤ 18) → Page0Shows s s.page0) ∧
     (∀ k < 4, Page2Shows s k (s.page2 k)) ∧
     ∀ j < 41, ∀ k, counterOrder[j]? = some k → s.count k ≤ 65535 →
       (let part := s.page1 (j / 15)
        let at_ := 2 + 2 * (j % 15)
        part.length = 30 ∧ 256 * bodyByte part at_ + bodyByte part (at_ + 1) = s.count k ∧
        (j / 15 = 2 → ∀ i, 24 ≤ i → bodyByte part i = 0)))
end

