-- ==== Sys2Proof/Laws/State.lean ====
section
/-! SUPPORT. One lemma per field per update of the state, each true by rfl. -/

namespace Sys2Proof.Machine

@[simp] theorem State.setPos_pos (s : State) (x : Position) : (s.setPos x).pos = x := rfl
@[simp] theorem State.setPos_rows (s : State) (x : Position) : (s.setPos x).rows = s.rows := rfl
@[simp] theorem State.setPos_course (s : State) (x : Position) : (s.setPos x).course = s.course := rfl
@[simp] theorem State.setPos_dec (s : State) (x : Position) : (s.setPos x).dec = s.dec := rfl
@[simp] theorem State.setPos_claim (s : State) (x : Position) : (s.setPos x).claim = s.claim := rfl
@[simp] theorem State.setPos_head (s : State) (x : Position) : (s.setPos x).head = s.head := rfl
@[simp] theorem State.setPos_carr (s : State) (x : Position) : (s.setPos x).carr = s.carr := rfl
@[simp] theorem State.setPos_line (s : State) (x : Position) : (s.setPos x).line = s.line := rfl
@[simp] theorem State.setPos_ctl (s : State) (x : Position) : (s.setPos x).ctl = s.ctl := rfl
@[simp] theorem State.setPos_counts (s : State) (x : Position) : (s.setPos x).counts = s.counts := rfl
@[simp] theorem State.setPos_pending (s : State) (x : Position) : (s.setPos x).pending = s.pending := rfl

@[simp] theorem State.setRows_pos (s : State) (x : RowStore) : (s.setRows x).pos = s.pos := rfl
@[simp] theorem State.setRows_rows (s : State) (x : RowStore) : (s.setRows x).rows = x := rfl
@[simp] theorem State.setRows_course (s : State) (x : RowStore) : (s.setRows x).course = s.course := rfl
@[simp] theorem State.setRows_dec (s : State) (x : RowStore) : (s.setRows x).dec = s.dec := rfl
@[simp] theorem State.setRows_claim (s : State) (x : RowStore) : (s.setRows x).claim = s.claim := rfl
@[simp] theorem State.setRows_head (s : State) (x : RowStore) : (s.setRows x).head = s.head := rfl
@[simp] theorem State.setRows_carr (s : State) (x : RowStore) : (s.setRows x).carr = s.carr := rfl
@[simp] theorem State.setRows_line (s : State) (x : RowStore) : (s.setRows x).line = s.line := rfl
@[simp] theorem State.setRows_ctl (s : State) (x : RowStore) : (s.setRows x).ctl = s.ctl := rfl
@[simp] theorem State.setRows_counts (s : State) (x : RowStore) : (s.setRows x).counts = s.counts := rfl
@[simp] theorem State.setRows_pending (s : State) (x : RowStore) : (s.setRows x).pending = s.pending := rfl

@[simp] theorem State.setCourse_pos (s : State) (x : CourseCtl) : (s.setCourse x).pos = s.pos := rfl
@[simp] theorem State.setCourse_rows (s : State) (x : CourseCtl) : (s.setCourse x).rows = s.rows := rfl
@[simp] theorem State.setCourse_course (s : State) (x : CourseCtl) : (s.setCourse x).course = x := rfl
@[simp] theorem State.setCourse_dec (s : State) (x : CourseCtl) : (s.setCourse x).dec = s.dec := rfl
@[simp] theorem State.setCourse_claim (s : State) (x : CourseCtl) : (s.setCourse x).claim = s.claim := rfl
@[simp] theorem State.setCourse_head (s : State) (x : CourseCtl) : (s.setCourse x).head = s.head := rfl
@[simp] theorem State.setCourse_carr (s : State) (x : CourseCtl) : (s.setCourse x).carr = s.carr := rfl
@[simp] theorem State.setCourse_line (s : State) (x : CourseCtl) : (s.setCourse x).line = s.line := rfl
@[simp] theorem State.setCourse_ctl (s : State) (x : CourseCtl) : (s.setCourse x).ctl = s.ctl := rfl
@[simp] theorem State.setCourse_counts (s : State) (x : CourseCtl) : (s.setCourse x).counts = s.counts := rfl
@[simp] theorem State.setCourse_pending (s : State) (x : CourseCtl) : (s.setCourse x).pending = s.pending := rfl

@[simp] theorem State.setDec_pos (s : State) (x : Decision) : (s.setDec x).pos = s.pos := rfl
@[simp] theorem State.setDec_rows (s : State) (x : Decision) : (s.setDec x).rows = s.rows := rfl
@[simp] theorem State.setDec_course (s : State) (x : Decision) : (s.setDec x).course = s.course := rfl
@[simp] theorem State.setDec_dec (s : State) (x : Decision) : (s.setDec x).dec = x := rfl
@[simp] theorem State.setDec_claim (s : State) (x : Decision) : (s.setDec x).claim = s.claim := rfl
@[simp] theorem State.setDec_head (s : State) (x : Decision) : (s.setDec x).head = s.head := rfl
@[simp] theorem State.setDec_carr (s : State) (x : Decision) : (s.setDec x).carr = s.carr := rfl
@[simp] theorem State.setDec_line (s : State) (x : Decision) : (s.setDec x).line = s.line := rfl
@[simp] theorem State.setDec_ctl (s : State) (x : Decision) : (s.setDec x).ctl = s.ctl := rfl
@[simp] theorem State.setDec_counts (s : State) (x : Decision) : (s.setDec x).counts = s.counts := rfl
@[simp] theorem State.setDec_pending (s : State) (x : Decision) : (s.setDec x).pending = s.pending := rfl

@[simp] theorem State.setClaim_pos (s : State) (x : ClaimUnit) : (s.setClaim x).pos = s.pos := rfl
@[simp] theorem State.setClaim_rows (s : State) (x : ClaimUnit) : (s.setClaim x).rows = s.rows := rfl
@[simp] theorem State.setClaim_course (s : State) (x : ClaimUnit) : (s.setClaim x).course = s.course := rfl
@[simp] theorem State.setClaim_dec (s : State) (x : ClaimUnit) : (s.setClaim x).dec = s.dec := rfl
@[simp] theorem State.setClaim_claim (s : State) (x : ClaimUnit) : (s.setClaim x).claim = x := rfl
@[simp] theorem State.setClaim_head (s : State) (x : ClaimUnit) : (s.setClaim x).head = s.head := rfl
@[simp] theorem State.setClaim_carr (s : State) (x : ClaimUnit) : (s.setClaim x).carr = s.carr := rfl
@[simp] theorem State.setClaim_line (s : State) (x : ClaimUnit) : (s.setClaim x).line = s.line := rfl
@[simp] theorem State.setClaim_ctl (s : State) (x : ClaimUnit) : (s.setClaim x).ctl = s.ctl := rfl
@[simp] theorem State.setClaim_counts (s : State) (x : ClaimUnit) : (s.setClaim x).counts = s.counts := rfl
@[simp] theorem State.setClaim_pending (s : State) (x : ClaimUnit) : (s.setClaim x).pending = s.pending := rfl

@[simp] theorem State.setHead_pos (s : State) (x : Head) : (s.setHead x).pos = s.pos := rfl
@[simp] theorem State.setHead_rows (s : State) (x : Head) : (s.setHead x).rows = s.rows := rfl
@[simp] theorem State.setHead_course (s : State) (x : Head) : (s.setHead x).course = s.course := rfl
@[simp] theorem State.setHead_dec (s : State) (x : Head) : (s.setHead x).dec = s.dec := rfl
@[simp] theorem State.setHead_claim (s : State) (x : Head) : (s.setHead x).claim = s.claim := rfl
@[simp] theorem State.setHead_head (s : State) (x : Head) : (s.setHead x).head = x := rfl
@[simp] theorem State.setHead_carr (s : State) (x : Head) : (s.setHead x).carr = s.carr := rfl
@[simp] theorem State.setHead_line (s : State) (x : Head) : (s.setHead x).line = s.line := rfl
@[simp] theorem State.setHead_ctl (s : State) (x : Head) : (s.setHead x).ctl = s.ctl := rfl
@[simp] theorem State.setHead_counts (s : State) (x : Head) : (s.setHead x).counts = s.counts := rfl
@[simp] theorem State.setHead_pending (s : State) (x : Head) : (s.setHead x).pending = s.pending := rfl

@[simp] theorem State.setCarr_pos (s : State) (x : CarrierUnit) : (s.setCarr x).pos = s.pos := rfl
@[simp] theorem State.setCarr_rows (s : State) (x : CarrierUnit) : (s.setCarr x).rows = s.rows := rfl
@[simp] theorem State.setCarr_course (s : State) (x : CarrierUnit) : (s.setCarr x).course = s.course := rfl
@[simp] theorem State.setCarr_dec (s : State) (x : CarrierUnit) : (s.setCarr x).dec = s.dec := rfl
@[simp] theorem State.setCarr_claim (s : State) (x : CarrierUnit) : (s.setCarr x).claim = s.claim := rfl
@[simp] theorem State.setCarr_head (s : State) (x : CarrierUnit) : (s.setCarr x).head = s.head := rfl
@[simp] theorem State.setCarr_carr (s : State) (x : CarrierUnit) : (s.setCarr x).carr = x := rfl
@[simp] theorem State.setCarr_line (s : State) (x : CarrierUnit) : (s.setCarr x).line = s.line := rfl
@[simp] theorem State.setCarr_ctl (s : State) (x : CarrierUnit) : (s.setCarr x).ctl = s.ctl := rfl
@[simp] theorem State.setCarr_counts (s : State) (x : CarrierUnit) : (s.setCarr x).counts = s.counts := rfl
@[simp] theorem State.setCarr_pending (s : State) (x : CarrierUnit) : (s.setCarr x).pending = s.pending := rfl

@[simp] theorem State.setLine_pos (s : State) (x : Line) : (s.setLine x).pos = s.pos := rfl
@[simp] theorem State.setLine_rows (s : State) (x : Line) : (s.setLine x).rows = s.rows := rfl
@[simp] theorem State.setLine_course (s : State) (x : Line) : (s.setLine x).course = s.course := rfl
@[simp] theorem State.setLine_dec (s : State) (x : Line) : (s.setLine x).dec = s.dec := rfl
@[simp] theorem State.setLine_claim (s : State) (x : Line) : (s.setLine x).claim = s.claim := rfl
@[simp] theorem State.setLine_head (s : State) (x : Line) : (s.setLine x).head = s.head := rfl
@[simp] theorem State.setLine_carr (s : State) (x : Line) : (s.setLine x).carr = s.carr := rfl
@[simp] theorem State.setLine_line (s : State) (x : Line) : (s.setLine x).line = x := rfl
@[simp] theorem State.setLine_ctl (s : State) (x : Line) : (s.setLine x).ctl = s.ctl := rfl
@[simp] theorem State.setLine_counts (s : State) (x : Line) : (s.setLine x).counts = s.counts := rfl
@[simp] theorem State.setLine_pending (s : State) (x : Line) : (s.setLine x).pending = s.pending := rfl

@[simp] theorem State.setCtl_pos (s : State) (x : Control) : (s.setCtl x).pos = s.pos := rfl
@[simp] theorem State.setCtl_rows (s : State) (x : Control) : (s.setCtl x).rows = s.rows := rfl
@[simp] theorem State.setCtl_course (s : State) (x : Control) : (s.setCtl x).course = s.course := rfl
@[simp] theorem State.setCtl_dec (s : State) (x : Control) : (s.setCtl x).dec = s.dec := rfl
@[simp] theorem State.setCtl_claim (s : State) (x : Control) : (s.setCtl x).claim = s.claim := rfl
@[simp] theorem State.setCtl_head (s : State) (x : Control) : (s.setCtl x).head = s.head := rfl
@[simp] theorem State.setCtl_carr (s : State) (x : Control) : (s.setCtl x).carr = s.carr := rfl
@[simp] theorem State.setCtl_line (s : State) (x : Control) : (s.setCtl x).line = s.line := rfl
@[simp] theorem State.setCtl_ctl (s : State) (x : Control) : (s.setCtl x).ctl = x := rfl
@[simp] theorem State.setCtl_counts (s : State) (x : Control) : (s.setCtl x).counts = s.counts := rfl
@[simp] theorem State.setCtl_pending (s : State) (x : Control) : (s.setCtl x).pending = s.pending := rfl

@[simp] theorem State.setCounts_pos (s : State) (x : Vector Nat 41) : (s.setCounts x).pos = s.pos := rfl
@[simp] theorem State.setCounts_rows (s : State) (x : Vector Nat 41) : (s.setCounts x).rows = s.rows := rfl
@[simp] theorem State.setCounts_course (s : State) (x : Vector Nat 41) : (s.setCounts x).course = s.course := rfl
@[simp] theorem State.setCounts_dec (s : State) (x : Vector Nat 41) : (s.setCounts x).dec = s.dec := rfl
@[simp] theorem State.setCounts_claim (s : State) (x : Vector Nat 41) : (s.setCounts x).claim = s.claim := rfl
@[simp] theorem State.setCounts_head (s : State) (x : Vector Nat 41) : (s.setCounts x).head = s.head := rfl
@[simp] theorem State.setCounts_carr (s : State) (x : Vector Nat 41) : (s.setCounts x).carr = s.carr := rfl
@[simp] theorem State.setCounts_line (s : State) (x : Vector Nat 41) : (s.setCounts x).line = s.line := rfl
@[simp] theorem State.setCounts_ctl (s : State) (x : Vector Nat 41) : (s.setCounts x).ctl = s.ctl := rfl
@[simp] theorem State.setCounts_counts (s : State) (x : Vector Nat 41) : (s.setCounts x).counts = x := rfl
@[simp] theorem State.setCounts_pending (s : State) (x : Vector Nat 41) : (s.setCounts x).pending = s.pending := rfl

@[simp] theorem State.setPending_pos (s : State) (x : List Instr) : (s.setPending x).pos = s.pos := rfl
@[simp] theorem State.setPending_rows (s : State) (x : List Instr) : (s.setPending x).rows = s.rows := rfl
@[simp] theorem State.setPending_course (s : State) (x : List Instr) : (s.setPending x).course = s.course := rfl
@[simp] theorem State.setPending_dec (s : State) (x : List Instr) : (s.setPending x).dec = s.dec := rfl
@[simp] theorem State.setPending_claim (s : State) (x : List Instr) : (s.setPending x).claim = s.claim := rfl
@[simp] theorem State.setPending_head (s : State) (x : List Instr) : (s.setPending x).head = s.head := rfl
@[simp] theorem State.setPending_carr (s : State) (x : List Instr) : (s.setPending x).carr = s.carr := rfl
@[simp] theorem State.setPending_line (s : State) (x : List Instr) : (s.setPending x).line = s.line := rfl
@[simp] theorem State.setPending_ctl (s : State) (x : List Instr) : (s.setPending x).ctl = s.ctl := rfl
@[simp] theorem State.setPending_counts (s : State) (x : List Instr) : (s.setPending x).counts = s.counts := rfl
@[simp] theorem State.setPending_pending (s : State) (x : List Instr) : (s.setPending x).pending = x := rfl

/-- Two states with the same blocks are the same. -/
theorem State.ext_blocks (s t : State) (h1 : s.pos = t.pos) (h2 : s.rows = t.rows)
    (h3 : s.course = t.course) (h4 : s.dec = t.dec) (h5 : s.claim = t.claim) (h6 : s.head = t.head)
    (h7 : s.carr = t.carr) (h8 : s.line = t.line) (h9 : s.ctl = t.ctl) (h10 : s.counts = t.counts)
    (h11 : s.pending = t.pending) : s = t := by
  cases s; cases t; simp_all

end Sys2Proof.Machine
end

