-- ==== Sys2Proof/Laws/Frames.lean ====
section
/-! SUPPORT. What each shared operation leaves as it was, and that flags, causes, the latch and the
counters only rise in it: one lemma per operation, in the terms of Safety.lean, composed by `Frame.then`. -/

namespace Sys2Proof.Machine

/-! ### Rising flags and counters -/

/-- Sticky flags, recorded causes, the stop latch and the counters rise and do not fall, and a newly
recorded cause leaves the latch set. -/
structure Rises (s t : State) : Prop where
  latch : s.ctl.latch = true → t.ctl.latch = true
  sticky : ∀ f, s.isSticky f = true → t.isSticky f = true
  causes : ∀ c, s.isRecorded c = true → t.isRecorded c = true
  counts : ∀ k, s.count k ≤ 65535 → s.count k ≤ t.count k ∧ t.count k ≤ 65535
  latched : ∀ c, s.isRecorded c = false → t.isRecorded c = true → t.ctl.latch = true

theorem Rises.then {s t u : State} (h : Rises s t) (k : Rises t u) : Rises s u where
  latch x := k.latch (h.latch x)
  sticky f x := k.sticky f (h.sticky f x)
  causes c x := k.causes c (h.causes c x)
  counts n x := ⟨(h.counts n x).1.trans (k.counts n (h.counts n x).2).1, (k.counts n (h.counts n x).2).2⟩
  latched c x y := by
    cases hc : t.isRecorded c with
    | false => exact k.latched c hc y
    | true => exact k.latch (h.latched c x hc)

theorem Rises.of_same {l : List Part} {s t : State} (h : SameExcept l s t)
    (hl : ∀ p ∈ [Part.sticky, .causes, .latch, .counts], p ∉ l) : Rises s t := by
  have h1 : t.ctl.sticky = s.ctl.sticky := h .sticky (hl _ (by decide))
  have h2 : t.ctl.causes = s.ctl.causes := h .causes (hl _ (by decide))
  have h3 : t.ctl.latch = s.ctl.latch := h .latch (hl _ (by decide))
  have h4 : t.counts = s.counts := h .counts (hl _ (by decide))
  constructor <;> intros <;>
    simp_all [State.isSticky, State.isRecorded, State.count]

/-! ### Composing frames -/

theorem SameExcept.refl (l : List Part) (s : State) : SameExcept l s s := by
  intro p _
  cases p <;> simp [Part.same]

theorem Part.same_trans {p : Part} {s t u : State} (h : p.same s t) (k : p.same t u) : p.same s u := by
  cases p <;> simp_all [Part.same]

theorem SameExcept.mono {l m : List Part} {s t : State} (h : SameExcept l s t)
    (hl : ∀ p ∈ l, p ∈ m := by decide) : SameExcept m s t :=
  fun p hp => h p fun hm => hp (hl p hm)

theorem SameExcept.then {l m n : List Part} {s t u : State} (h : SameExcept l s t)
    (k : SameExcept m t u) (hl : ∀ p ∈ l, p ∈ n := by decide) (hm : ∀ p ∈ m, p ∈ n := by decide) :
    SameExcept n s u :=
  fun p hp => Part.same_trans (h p fun hp' => hp (hl p hp')) (k p fun hp' => hp (hm p hp'))

/-- Only the listed parts change, and flags and counters only rise. -/
structure Frame (l : List Part) (s t : State) : Prop where
  same : SameExcept l s t
  rises : Rises s t

theorem Frame.of {l : List Part} {s t : State} (h : SameExcept l s t)
    (hl : ∀ p ∈ [Part.sticky, .causes, .latch, .counts], p ∉ l := by decide) : Frame l s t :=
  ⟨h, .of_same h hl⟩

theorem Frame.refl (l : List Part) (s : State) : Frame l s s :=
  ⟨.refl l s, .of_same (.refl [] s) (by simp)⟩

theorem Frame.mono {l m : List Part} {s t : State} (h : Frame l s t)
    (hl : ∀ p ∈ l, p ∈ m := by decide) : Frame m s t := ⟨h.same.mono hl, h.rises⟩

theorem Frame.then {l m n : List Part} {s t u : State} (h : Frame l s t)
    (k : Frame m t u) (hl : ∀ p ∈ l, p ∈ n := by decide) (hm : ∀ p ∈ m, p ∈ n := by decide) :
    Frame n s u := ⟨h.same.then k.same hl hm, h.rises.then k.rises⟩

/-- A part that a frame leaves out is the same. -/
theorem Frame.get {l : List Part} {s t : State} (h : Frame l s t) (p : Part)
    (hp : p ∉ l := by decide) : p.same s t := h.same p hp

theorem Frame.ite {l : List Part} {s t u : State} {c : Prop} [Decidable c]
    (h : Frame l s t) (k : Frame l s u) : Frame l s (if c then t else u) := by
  split <;> assumption

/-! ### Bits of a word -/

theorem getLsbD_setBit {n : Nat} (x : BitVec n) (i j : Nat) (hi : i < n) :
    (setBit x i).getLsbD j = (x.getLsbD j || decide (i = j)) := by
  simp only [setBit, BitVec.getLsbD_or, BitVec.getLsbD_twoPow]
  by_cases h : i = j
  · subst h; simp [hi]
  · simp [h]

theorem getLsbD_clearBit {n : Nat} (x : BitVec n) (i j : Nat) (hj : j < n) :
    (clearBit x i).getLsbD j = (x.getLsbD j && !decide (i = j)) := by
  simp only [clearBit, BitVec.getLsbD_and, BitVec.getLsbD_not, BitVec.getLsbD_twoPow]
  by_cases h : i = j
  · subst h; simp [hj]
  · simp [h, hj]

theorem StickyFlag.idx_lt (f : StickyFlag) : f.idx < 14 := by cases f <;> decide
theorem StopCause.idx_lt (c : StopCause) : c.idx < 13 := by cases c <;> decide
theorem CourseFlag.idx_lt (f : CourseFlag) : f.idx < 9 := by cases f <;> decide

theorem StickyFlag.idx_inj (f g : StickyFlag) : f.idx = g.idx ↔ f = g := by
  cases f <;> cases g <;> decide
theorem StopCause.idx_inj (f g : StopCause) : f.idx = g.idx ↔ f = g := by
  cases f <;> cases g <;> decide
theorem CourseFlag.idx_inj (f g : CourseFlag) : f.idx = g.idx ↔ f = g := by
  cases f <;> cases g <;> decide
theorem Counter.idx_inj (j k : Counter) : j.idx = k.idx ↔ j = k := by
  constructor
  · intro h
    cases j <;> cases k <;> first | rfl | exact absurd h (by decide)
  · exact congrArg _

/-- Setting a sticky flag sets that one. -/
theorem State.isSticky_setSticky (s : State) (f g : StickyFlag) :
    (s.setSticky f).isSticky g = (s.isSticky g || decide (f = g)) := by
  simp [State.isSticky, State.setSticky, getLsbD_setBit _ _ _ f.idx_lt, StickyFlag.idx_inj]

/-- Raising a stop cause records that one. -/
theorem State.isRecorded_raise (s : State) (c d : StopCause) :
    (s.raise c).isRecorded d = (s.isRecorded d || decide (c = d)) := by
  simp [State.isRecorded, State.raise, getLsbD_setBit _ _ _ c.idx_lt, StopCause.idx_inj]

/-- A counter that goes up is the one named, and stops at 65,535. -/
theorem State.count_bump (s : State) (j k : Counter) :
    (s.bump j).count k = if j = k then min (s.count k + 1) 65535 else s.count k := by
  unfold State.count State.bump
  by_cases h : j = k
  · subst h; simp [satAdd, Config.counterMax]
  · have : j.idx.val ≠ k.idx.val := fun e => h ((Counter.idx_inj j k).1 (Fin.ext e))
    simp [h, this]

/-! ### Flags, counters, the transmit list -/

theorem bump_frame (s : State) (k : Counter) : Frame [.counts] s (s.bump k) := by
  refine ⟨?_, ?_⟩
  · intro p hp
    cases p <;> first | exact absurd (by decide) hp | (simp [Part.same, State.bump])
  · refine ⟨id, fun _ => id, fun _ => id, fun j h => ?_, fun c h k => ?_⟩
    · rw [State.count_bump]
      split <;> omega
    · simp_all [State.isRecorded, State.bump]

theorem offer_frame (s : State) (n : Notice) :
    Frame [.transmitList, .counts] s (s.offer n) := by
  have h : Frame [.transmitList] s (s.setLine { s.line with list := joinList n s.line.list }) := by
    refine .of ?_
    intro p hp
    cases p <;> first | exact absurd (by decide) hp | (simp [Part.same])
  unfold State.offer
  split
  · exact h.mono
  · exact (bump_frame s _).mono

theorem setSticky_frame (s : State) (f : StickyFlag) : Frame [.sticky] s (s.setSticky f) := by
  refine ⟨?_, ?_⟩
  · intro p hp
    cases p <;> first | exact absurd (by decide) hp | (simp [Part.same, State.setSticky])
  · refine ⟨id, fun g h => ?_, fun _ => id, fun j h => ⟨le_rfl, h⟩, fun c h k => ?_⟩
    · simp [State.isSticky_setSticky, h]
    · simp_all [State.isRecorded, State.setSticky]

theorem raise_frame (s : State) (c : StopCause) : Frame [.causes, .latch] s (s.raise c) := by
  refine ⟨?_, ?_⟩
  · intro p hp
    cases p <;> first | exact absurd (by decide) hp | (simp [Part.same, State.raise])
  · refine ⟨fun _ => rfl, fun _ => id, fun d h => ?_, fun j h => ⟨le_rfl, h⟩, fun _ _ _ => rfl⟩
    simp [State.isRecorded_raise, h]

theorem raiseFor_frame (s : State) (f : CourseFlag) :
    Frame [.causes, .latch] s (s.raiseFor f) := by
  unfold State.raiseFor
  split
  · exact raise_frame s _
  · exact .refl _ s

theorem setCourseFlag_frame (s : State) (f : CourseFlag) :
    Frame [.courseFlags, .causes, .latch] s (s.setCourseFlag f) := by
  unfold State.setCourseFlag
  split
  · exact .refl _ s
  · have h : Frame [.courseFlags] s
        (s.setCourse { s.course with flags := setBit s.course.flags f.idx }) := by
      refine .of ?_
      intro p hp
      cases p <;> first | exact absurd (by decide) hp | (simp [Part.same])
    exact h.then (raiseFor_frame _ f)

/-- A course flag that is no stop cause leaves the latch and the causes. -/
theorem setCourseFlag_frame_of_none (s : State) (f : CourseFlag) (hf : f.cause = none) :
    Frame [.courseFlags] s (s.setCourseFlag f) := by
  unfold State.setCourseFlag State.raiseFor
  rw [hf]
  split
  · exact .refl _ s
  · refine .of ?_
    intro p hp
    cases p <;> first | exact absurd (by decide) hp | (simp [Part.same])

/-! ### The outcome list and the open run -/

theorem setTally_frame (s : State) (t : Tally) : Frame [.tally] s (s.setTally t) := by
  refine .of ?_
  intro p hp
  cases p <;> first | exact absurd (by decide) hp | (simp [Part.same, State.setTally])

theorem setDec_outcomes_frame (s : State) (l : List Entry) :
    Frame [.outcomes] s (s.setDec { s.dec with outcomes := l }) := by
  refine .of ?_
  intro p hp
  cases p <;> first | exact absurd (by decide) hp | (simp [Part.same])

theorem setDec_float_frame (s : State) (n : Nat) :
    Frame [.float] s (s.setDec { s.dec with float := n }) := by
  refine .of ?_
  intro p hp
  cases p <;> first | exact absurd (by decide) hp | (simp [Part.same])

theorem setClaim_run_frame (s : State) (r : Option OpenRun) :
    Frame [.openRun] s (s.setClaim { s.claim with run := r }) := by
  refine .of ?_
  intro p hp
  cases p <;> first | exact absurd (by decide) hp | (simp [Part.same])

theorem countOutcome_frame (s : State) (o : NeedleOutcome) :
    Frame [.counts] s (s.countOutcome o) := by
  unfold State.countOutcome
  split
  · exact bump_frame s _
  · exact .refl _ s

theorem score_frame (s : State) (o : NeedleOutcome) (a : Action) :
    Frame [.tally, .counts] s (s.score o a) :=
  (setTally_frame s _).then (countOutcome_frame _ o)

/-- What closing and forming a run changes (R93, R94). -/
theorem formClaim_frame (s : State) (r : OpenRun) :
    Frame [.courseFlags, .transmitList, .counts] s (s.formClaim r) := by
  unfold State.formClaim
  split
  · exact .refl _ s
  · exact .ite ((bump_frame s _).then (offer_frame _ _))
      (((bump_frame s _).then (offer_frame _ _) (n := [.transmitList, .counts])).then
        (setCourseFlag_frame_of_none _ .claimsDropped rfl))

theorem closeRun_frame (s : State) :
    Frame [.openRun, .courseFlags, .transmitList, .counts] s s.closeRun := by
  unfold State.closeRun
  split
  · exact .refl _ s
  · exact (setClaim_run_frame s none).then (formClaim_frame _ _)

theorem handRun_frame (s : State) (a : Active) (n : Nat) (x : NeedleResult) :
    Frame [.openRun, .courseFlags, .transmitList, .counts] s (s.handRun a n x) := by
  have h : Frame [.openRun, .courseFlags, .transmitList, .counts] s
      (match s.claim.run with
        | some r => if r.result = x then s else s.closeRun
        | none => s) := by
    split
    · exact .ite (.refl _ s) (closeRun_frame s)
    · exact .refl _ s
  unfold State.handRun
  exact .ite ((h.then (setClaim_run_frame _ _)
    (n := [.openRun, .courseFlags, .transmitList, .counts])).then (closeRun_frame _))
    (h.then (setClaim_run_frame _ _))

theorem announce_frame (s : State) (n : Nat) (x : NeedleResult) :
    Frame [.openRun, .courseFlags, .transmitList, .counts] s (s.announce n x) := by
  unfold State.announce
  split
  · exact .ite (handRun_frame s _ n x) (.refl _ s)
  · exact .refl _ s

theorem account_frame (s : State) (e : Entry) (o : NeedleOutcome) :
    Frame [.tally, .openRun, .courseFlags, .transmitList, .counts] s (s.account e o) := by
  have h : Frame [.tally, .openRun, .courseFlags, .transmitList, .counts] s
      (if e.counting then (s.score o e.action).announce e.needle (resultOf o e.action) else s) :=
    .ite ((score_frame s _ _).then (announce_frame _ _ _)) (.refl _ s)
  unfold State.account
  exact .ite (h.then (closeRun_frame _)) h

theorem leaveFrom_frame (l : List Entry) (s : State) : Frame leaveParts s (leaveFrom l s) := by
  induction l generalizing s with
  | nil => exact (setDec_outcomes_frame s []).mono
  | cons e es ih =>
    unfold leaveFrom
    split
    · exact (account_frame s e _).then (ih _)
    · exact (setDec_outcomes_frame s _).mono

theorem leave_frame (s : State) : Frame leaveParts s s.leave := leaveFrom_frame _ s

theorem resolve_frame (s : State) (n : Nat) (o : NeedleOutcome) :
    Frame [.outcomes] s (s.resolve n o) := setDec_outcomes_frame s _

theorem answer_frame (s : State) (n : Nat) (o : NeedleOutcome) :
    Frame leaveParts s (s.answer n o) := (resolve_frame s n o).then (leave_frame _)

theorem answerIf_frame (s : State) (n : Option Nat) (o : NeedleOutcome) :
    Frame leaveParts s (s.answerIf n o) := by
  unfold State.answerIf
  split
  · exact answer_frame s _ o
  · exact .refl _ s

theorem closeOutcomes_frame (s : State) :
    Frame (.float :: leaveParts) s s.closeOutcomes :=
  (((setDec_outcomes_frame s _).then (leave_frame _) (n := leaveParts)).then (closeRun_frame _)
    (n := leaveParts)).then (setDec_float_frame _ 0)

/-! ### The head -/

theorem startFire_frame (s : State) (n : Nat) (h : Height) :
    Frame [.headHeight, .headCode, .headFire, .counts] s (s.startFire n h) := by
  have k : Frame [.headHeight, .headCode, .headFire] s (s.setHead { s.head with
      height := none, code := h,
      fire := some { target := h, needle := some n, deadline := s.fireTime } }) := by
    refine .of ?_
    intro p hp
    cases p <;> first | exact absurd (by decide) hp | (simp [Part.same])
  exact k.then (bump_frame _ _)

theorem setHead_waiting_frame (s : State) (q : Option Request) :
    Frame [.headWaiting] s (s.setHead { s.head with waiting := q }) := by
  refine .of ?_
  intro p hp
  cases p <;> first | exact absurd (by decide) hp | (simp [Part.same])

theorem replaceWaiting_frame (s : State) (q : Request) :
    Frame [.headWaiting, .outcomes] s (s.replaceWaiting q) := by
  unfold State.replaceWaiting
  split
  · exact (setHead_waiting_frame s _).then (resolve_frame _ _ _)
  · exact (setHead_waiting_frame s _).mono

theorem request_frame (s : State) (n : Nat) (h : Height) (travel : Dir) :
    Frame [.headHeight, .headCode, .headFire, .headWaiting, .outcomes, .counts] s
      (s.request n h travel) := by
  unfold State.request
  split
  · exact (resolve_frame s _ _).mono
  · split
    · exact .ite (resolve_frame s _ _).mono (resolve_frame s _ _).mono
    · split
      · exact (replaceWaiting_frame s _).mono
      · exact .ite (resolve_frame s _ _).mono (startFire_frame s _ _).mono

theorem serve_frame (s : State) :
    Frame ([.headHeight, .headCode, .headFire, .headWaiting] ++ leaveParts) s s.serve := by
  unfold State.serve
  split
  · exact .refl _ s
  · have h := setHead_waiting_frame s none
    exact .ite (h.then (answer_frame _ _ _)) (.ite (h.then (answer_frame _ _ _))
      (.ite (h.then (answer_frame _ _ _)) (.ite (h.then (answer_frame _ _ _))
        (h.then (startFire_frame _ _ _)))))

theorem judgeFaults_frame (s : State) :
    Frame [.headDisabled, .causes, .latch] s s.judgeFaults := by
  have h : Frame [.headDisabled] s (s.setHead { s.head with disabled := true }) := by
    refine .of ?_
    intro p hp
    cases p <;> first | exact absurd (by decide) hp | (simp [Part.same])
  exact .ite (h.then (raise_frame _ _)) (.refl _ s)

theorem detachFire_frame (s : State) : Frame [.headWaiting, .headFire] s s.detachFire := by
  refine .of ?_
  intro p hp
  cases p <;> first | exact absurd (by decide) hp | (simp [Part.same, State.detachFire])

theorem resetHead_frame (s : State) :
    Frame [.headWaiting, .headFire, .headFaults, .headDisabled] s s.resetHead := by
  refine .of ?_
  intro p hp
  cases p <;> first | exact absurd (by decide) hp |
    (simp [Part.same, State.resetHead, State.detachFire])

/-! ### The row store and the claim pages -/

theorem setRows_slots_frame (s : State) (u : RowStore) (h : u.pinned = s.rows.pinned) :
    Frame [.rowSlots] s (s.setRows u) := by
  refine .of ?_
  intro p hp
  cases p <;> first | exact absurd (by decide) hp | (simp [Part.same, h])

@[simp] theorem RowStore.put_pinned (u : RowStore) (i : Fin 4) (x : Option Slot) :
    (u.put i x).pinned = u.pinned := rfl

theorem put_frame (s : State) (i : Fin 4) (x : Option Slot) :
    Frame [.rowSlots] s (s.setRows (s.rows.put i x)) := setRows_slots_frame s _ rfl

@[simp] theorem RowStore.mapSlots_pinned (u : RowStore) (f : Option Slot → Option Slot) :
    (u.mapSlots f).pinned = u.pinned := rfl

@[simp] theorem RowStore.free_pinned (u : RowStore) (i : Fin 4) : (u.free i).pinned = u.pinned := by
  unfold RowStore.free
  split <;> rfl

@[simp] theorem RowStore.takeSlot_pinned (u : RowStore) (i : Fin 4) (row : Word16) :
    (u.takeSlot i row).pinned = u.pinned := rfl

theorem rowReady_frame (s : State) (row : Word16) :
    Frame [.standby, .active] s (s.rowReady row) := by
  refine .of ?_
  intro p hp
  cases p <;> first | exact absurd (by decide) hp | (simp [Part.same, State.rowReady])

theorem damageSlot_frame (s : State) (i : Fin 4) (x : Slot) :
    Frame [.rowSlots, .counts, .standby, .active] s (s.damageSlot i x) :=
  ((setRows_slots_frame s (s.rows.put i (some { x with state := .damaged })) rfl).then
    (bump_frame _ _) (n := [.rowSlots, .counts])).then (rowReady_frame _ _)

theorem insertSpan_frame (s : State) (i : Fin 4) (x : Slot) (body : SpanBody) :
    Frame [.rowSlots, .counts, .standby, .active] s (s.insertSpan i x body) := by
  unfold State.insertSpan
  exact .ite (bump_frame s _).mono
    (.ite (put_frame s _ _).mono (damageSlot_frame s i x))

theorem spanInto_frame (s : State) (i : Fin 4) (body : SpanBody) :
    Frame [.rowSlots, .counts, .standby, .active] s (s.spanInto i body) := by
  unfold State.spanInto
  split
  · exact .refl _ s
  · exact .ite ((put_frame s _ _).then (insertSpan_frame _ i _ body))
      (bump_frame s _).mono

theorem takeSpan_frame (s : State) (body : SpanBody) :
    Frame [.rowSlots, .counts, .standby, .active, .sticky] s (s.takeSpan body) := by
  unfold State.takeSpan
  split
  · exact (spanInto_frame s _ body).mono
  · split
    · exact (setRows_slots_frame s _ (by simp)).then (spanInto_frame _ _ body)
    · split
      · exact ((setRows_slots_frame s _ (by simp)).then (bump_frame _ _)
          (n := [.rowSlots, .counts])).then (spanInto_frame _ _ body)
      · exact (setSticky_frame s _).then (bump_frame _ _)

theorem takeClose_frame (s : State) (body : CloseBody) :
    Frame [.rowSlots, .counts, .standby, .active] s (s.takeClose body) := by
  unfold State.takeClose
  split
  · exact .refl _ s
  · split
    · exact .refl _ s
    · exact .ite (.ite ((put_frame s _ _).then (rowReady_frame _ _))
        (damageSlot_frame s _ _)) (.refl _ s)

theorem releaseRows_frame (s : State) (row : Word16) (clean : Bool) :
    Frame [.rowSlots, .rowPinned] s (s.releaseRows row clean) := by
  refine .of ?_
  intro p hp
  cases p <;> first | exact absurd (by decide) hp | (simp [Part.same, State.releaseRows])

theorem setClaim_pages_frame (s : State) (p0 p1 : Option Page) :
    Frame [.pages] s (s.setClaim { s.claim with page0 := p0, page1 := p1 }) := by
  refine .of ?_
  intro p hp
  cases p <;> first | exact absurd (by decide) hp | (simp [Part.same])

theorem releasePages_frame (s : State) : Frame [.pages] s s.releasePages :=
  setClaim_pages_frame s _ _

theorem changePage_frame (s : State) (row : Word16) (f : Page → Page) :
    Frame [.pages] s (s.setClaim (s.claim.changePage row f)) := setClaim_pages_frame s _ _

theorem bind_frame (s : State) (row : Word16) (w : Nat) :
    Frame [.pages] s (s.setClaim (s.claim.bind row w)) := by
  unfold ClaimUnit.bind
  split
  · refine .of ?_
    intro p hp
    cases p <;> first | exact absurd (by decide) hp | (simp [Part.same])
  · split
    · exact setClaim_pages_frame s (some _) s.claim.page1
    · split
      · exact setClaim_pages_frame s s.claim.page0 (some _)
      · refine .of ?_
        intro p hp
        cases p <;> first | exact absurd (by decide) hp | (simp [Part.same])

theorem listenPage_frame (s : State) (a : Active) : Frame [.pages] s (s.listenPage a) :=
  .ite (changePage_frame s _ _) (.refl _ s)

theorem takeClaim_frame (s : State) (sender : StationNo) (b : ClaimBody) :
    Frame [.pages, .counts] s (s.takeClaim sender b) := by
  unfold State.takeClaim
  split
  · exact .refl _ s
  · split
    · exact (bump_frame s _).mono
    · exact .ite (bump_frame s _).mono ((changePage_frame s _ _).then (bump_frame _ _))

/-! ### The carrier unit -/

theorem setCarrier_frame (s : State) (c : Fin 16) (r : CarrierRec) :
    Frame [.carrierTable] s (s.setCarrier c r) := by
  refine .of ?_
  intro p hp
  cases p <;> first | exact absurd (by decide) hp | (simp [Part.same, State.setCarrier])

theorem setCourseCarrier_frame (s : State) (cc : CourseCarrier) :
    Frame [.courseCarrier] s (s.setCourseCarrier cc) := by
  refine .of ?_
  intro p hp
  cases p <;> first | exact absurd (by decide) hp | (simp [Part.same, State.setCourseCarrier])

theorem setPin_frame (s : State) (x : Pin) : Frame [.pin] s (s.setPin x) := by
  refine .of ?_
  intro p hp
  cases p <;> first | exact absurd (by decide) hp | (simp [Part.same, State.setPin])

theorem setCarr_takes_frame (s : State) (t : Option Take) :
    Frame [.standbyTake] s (s.setCarr { s.carr with standbyTake := t }) := by
  refine .of ?_
  intro p hp
  cases p <;> first | exact absurd (by decide) hp | (simp [Part.same])

theorem setCarr_course_frame (s : State) (t : Option Take) (cc : Option CourseCarrier) :
    Frame [.standbyTake, .courseCarrier] s
      (s.setCarr { s.carr with standbyTake := t, course := cc }) := by
  refine .of ?_
  intro p hp
  cases p <;> first | exact absurd (by decide) hp | (simp [Part.same])

/-- Without its flag a MISSED changes the course carrier alone. -/
theorem miss_quiet_frame (s : State) (cc : CourseCarrier) :
    Frame [.courseCarrier] s (s.miss cc false) := setCourseCarrier_frame s _

theorem miss_frame (s : State) (cc : CourseCarrier) (b : Bool := true) :
    Frame [.courseCarrier, .courseFlags, .causes, .latch] s (s.miss cc b) := by
  cases b
  · exact (miss_quiet_frame s cc).mono
  · exact (setCourseCarrier_frame s _).then (setCourseFlag_frame _ _)

theorem deny_frame (s : State) (cc : CourseCarrier) :
    Frame [.courseCarrier, .courseFlags, .causes, .latch] s (s.deny cc) :=
  (setCourseCarrier_frame s _).then (setCourseFlag_frame _ _)

/-- The carrier reached: a frame of the miss and of the engagement it may start. -/
theorem reached_frame_of {l : List Part} (s : State) (cc : CourseCarrier) (b : Bool)
    (h : Frame l s (s.miss cc b)) (hl : .pin ∈ l) : Frame l s (s.reached cc b) := by
  unfold State.reached
  split
  · exact h
  · exact .ite (.refl _ s) h
  · exact .ite h (.ite ((setPin_frame s _).mono (by simpa using hl)) (.refl _ s))

theorem reached_frame (s : State) (cc : CourseCarrier) (b : Bool := true) :
    Frame judgeParts s (s.reached cc b) := reached_frame_of s cc b (miss_frame s cc b).mono (by decide)

theorem judgeMove_frame (s : State) (old new : Int) :
    Frame judgeParts s (s.judgeMove old new) := by
  unfold State.judgeMove
  split
  · exact .refl _ s
  · split
    · exact .refl _ s
    · exact .ite (reached_frame s _ _) (.ite (miss_frame s _ _).mono (.refl _ s))

/-- A judgement where the pin index stands: a frame of the miss and of the engagement it may start. -/
theorem judgeAt_frame_of {l : List Part} (s : State) (cc : CourseCarrier) (x : Int) (b : Bool)
    (h : Frame l s (s.miss cc b)) (hl : .pin ∈ l) : Frame l s (s.judgeAt cc x b) := by
  unfold State.judgeAt
  split
  · exact .refl _ s
  · exact .ite (reached_frame_of s cc b h hl) (.ite h (.refl _ s))

theorem judgeAt_frame (s : State) (cc : CourseCarrier) (x : Int) (b : Bool) :
    Frame judgeParts s (s.judgeAt cc x b) := judgeAt_frame_of s cc x b (miss_frame s cc b).mono (by decide)

/-- Without its flag a judgement where the pin index stands changes pin and course carrier alone. -/
theorem judgeAt_quiet_frame (s : State) (cc : CourseCarrier) (x : Int) :
    Frame [.pin, .courseCarrier] s (s.judgeAt cc x false) :=
  judgeAt_frame_of s cc x false (miss_quiet_frame s cc).mono (by decide)

theorem expect_frame (s : State) (c : Fin 16) (x : Int) :
    Frame [.courseCarrier] s (s.expect c x) := by
  unfold State.expect
  split
  · exact .ite (setCourseCarrier_frame s _) (.refl _ s)
  · exact .refl _ s

/-- A changed place judged: a frame of the miss, of the engagement and of the expected needle. -/
theorem judgePlace_frame_of {l : List Part} (s : State) (c : Fin 16) (x : Place) (b : Bool)
    (h : ∀ (t : State) (cc : CourseCarrier), Frame l t (t.miss cc b)) (hp : .pin ∈ l)
    (hc : .courseCarrier ∈ l) : Frame l s (s.judgePlace c x b) := by
  unfold State.judgePlace
  split
  · have k := (expect_frame s c ‹Int›).mono (m := l) (by simpa using hc)
    dsimp only
    split
    · exact .ite (k.then (judgeAt_frame_of _ _ _ b (h _ _) hp) (fun _ => id) (fun _ => id)) k
    · exact k
  · split
    · exact .ite (h s _) (.refl _ s)
    · exact .refl _ s
  · exact .refl _ s

theorem judgePlace_frame (s : State) (c : Fin 16) (x : Place) (b : Bool) :
    Frame judgeParts s (s.judgePlace c x b) :=
  judgePlace_frame_of s c x b (fun t cc => (miss_frame t cc b).mono) (by decide) (by decide)

theorem record_frame (s : State) (c : Fin 16) (x : Place) (r : Option Reservation) (b : Bool) :
    Frame (.carrierTable :: judgeParts) s (s.record c x r b) := by
  unfold State.record
  exact .ite (setCarrier_frame s c _).mono ((setCarrier_frame s c _).then (judgePlace_frame _ c x b))

/-- The record changed at the end of a pin operation: no course flag and no stop cause (R145). -/
theorem record_quiet_frame (s : State) (c : Fin 16) (x : Place) (r : Option Reservation) :
    Frame [.carrierTable, .pin, .courseCarrier] s (s.record c x r false) := by
  have h (t : State) : Frame [.pin, .courseCarrier] t (t.judgePlace c x false) :=
    judgePlace_frame_of t c x false (fun u cc => (miss_quiet_frame u cc).mono) (by decide) (by decide)
  unfold State.record
  exact .ite (setCarrier_frame s c _).mono ((setCarrier_frame s c _).then (h _))

/-- A record that becomes HELD is not judged. -/
theorem record_held_frame (s : State) (c : Fin 16) (q : StationNo) (r : Option Reservation) :
    Frame [.carrierTable] s (s.record c (.held q) r) := by
  unfold State.record
  exact .ite (setCarrier_frame s c _) (setCarrier_frame s c _)

theorem judgeFree_frame (s : State) : Frame [.pin, .courseCarrier] s s.judgeFree := by
  unfold State.judgeFree
  split
  · split
    · exact judgeAt_quiet_frame s _ _
    · exact .refl _ s
  · exact .refl _ s

theorem startRelease_frame (s : State) : Frame [.pin] s s.startRelease := by
  unfold State.startRelease
  split
  · exact setPin_frame s _
  · exact .refl _ s

theorem judgeDrop_frame (s : State) : Frame [.pin] s s.judgeDrop := by
  unfold State.judgeDrop
  split
  · exact .ite (startRelease_frame s) (.refl _ s)
  · exact .refl _ s

theorem confirmHeld_frame (s : State) : Frame [.pin, .courseCarrier] s s.confirmHeld := by
  unfold State.confirmHeld
  split
  · exact .ite (.refl _ s) ((setCourseCarrier_frame s _).then (judgeDrop_frame _))
  · exact .refl _ s

theorem pinMoved_frame (s : State) (old new : Int) : Frame judgeParts s (s.pinMoved old new) :=
  (judgeMove_frame s old new).then (judgeDrop_frame _)

theorem pinFault_frame (s : State) : Frame [.pin, .sticky, .counts] s s.pinFault :=
  ((setPin_frame s _).then (setSticky_frame _ _) (n := [.pin, .sticky])).then (bump_frame _ _)

theorem loseCarrier_frame (s : State) (c : Fin 16) (pass : Word16) :
    Frame [.carrierTable, .pin, .courseCarrier, .transmitList, .counts] s (s.loseCarrier c pass) :=
  ((record_quiet_frame s c _ _).then (judgeFree_frame _) (n := [.carrierTable, .pin, .courseCarrier])).then
    (offer_frame _ _)

theorem faultCarrier_frame (s : State) :
    Frame [.courseCarrier, .courseFlags, .causes, .latch] s s.faultCarrier := by
  unfold State.faultCarrier
  split
  · exact (setCourseCarrier_frame s _).then (setCourseFlag_frame _ _)
  · exact .refl _ s

theorem changeTakes_frame (s : State) (c : Fin 16) (pass : Word16) (f : TakeState → TakeState) :
    Frame [.standbyTake, .courseCarrier] s (s.changeTakes c pass f) :=
  setCarr_course_frame s _ _

theorem judgeTake_frame (s : State) :
    Frame [.courseCarrier, .courseFlags, .causes, .latch] s s.judgeTake := by
  unfold State.judgeTake
  split
  · exact .ite (deny_frame s _) (.refl _ s)
  · exact .refl _ s

theorem loseTake_frame (s : State) (c : Fin 16) (pass : Word16) :
    Frame [.standbyTake, .courseCarrier, .courseFlags, .causes, .latch] s (s.loseTake c pass) :=
  (changeTakes_frame s c pass _).then (judgeTake_frame _)

theorem takeSent_frame (s : State) (c : Fin 16) (pass : Word16) :
    Frame [.carrierTable, .standbyTake, .courseCarrier] s (s.takeSent c pass) :=
  (setCarrier_frame s c _).then (changeTakes_frame _ c pass _)

theorem makeStandbyTake_frame (s : State) (c : Fin 16) (pass : Word16) :
    Frame [.standbyTake, .transmitList, .counts] s (s.makeStandbyTake c pass) := by
  have h := (offer_frame s (.take pass c)).then (setCarr_takes_frame _ (some ⟨c, pass, .queued⟩))
    (n := [.standbyTake, .transmitList, .counts])
  have k := (offer_frame s (.take pass c)).then (setCarr_takes_frame _ (some ⟨c, pass, .denied⟩))
    (n := [.standbyTake, .transmitList, .counts])
  unfold State.makeStandbyTake
  exact .ite (setCarr_takes_frame s _).mono (.ite (setCarr_takes_frame s _).mono
    (.ite (setCarr_takes_frame s _).mono (.ite h k)))

theorem standbyTakeFor_frame (s : State) (o : Order) :
    Frame [.standbyTake, .transmitList, .counts] s (s.standbyTakeFor o) := by
  unfold State.standbyTakeFor
  split
  · exact makeStandbyTake_frame s _ _
  · exact (setCarr_takes_frame s _).mono

theorem withCarrier_frame (s t : State) (x : Byte) (f : Fin 16 → State) (l : List Part)
    (hl : ∀ p ∈ [Part.counts], p ∈ l) (ht : Frame l s t) (h : ∀ c, Frame l s (f c)) :
    Frame l s (t.withCarrier x f) := by
  unfold State.withCarrier
  split
  · exact h _
  · exact ht.then (bump_frame t _) (fun _ hp => hp) hl

theorem takePlace_frame (s : State) (c : Fin 16) (x : Word16) :
    Frame ([.carrierTable, .sticky] ++ judgeParts) s (s.takePlace c x) :=
  .ite (setSticky_frame s _).mono (record_frame s c _ _ true).mono

theorem reserve_frame (s : State) (q : StationNo) (pass : Word16) (c : Fin 16) :
    Frame [.carrierTable, .counts] s (s.reserve q pass c) := by
  unfold State.reserve
  split
  · exact (setCarrier_frame s c _).mono
  · exact .ite (.ite (.refl _ s) (bump_frame s _).mono) (setCarrier_frame s c _).mono

theorem setLine_list_frame (s : State) (l : List Notice) :
    Frame [.transmitList] s (s.setLine { s.line with list := l }) := by
  refine .of ?_
  intro p hp
  cases p <;> first | exact absurd (by decide) hp | (simp [Part.same])

theorem takeTake_frame (s : State) (q : StationNo) (pass : Word16) (c : Fin 16) :
    Frame [.carrierTable, .standbyTake, .courseCarrier, .courseFlags, .causes, .latch,
      .transmitList, .counts] s (s.takeTake q pass c) := by
  unfold State.takeTake
  exact .ite
    ((((setLine_list_frame s _).then (bump_frame _ _) (n := [.transmitList, .counts])).then
      (loseTake_frame _ c pass) (n := [.standbyTake, .courseCarrier, .courseFlags, .causes, .latch,
        .transmitList, .counts])).then (reserve_frame _ q pass c)) (reserve_frame s q pass c).mono

theorem partnerPick_frame (s : State) (q : StationNo) (pass : Word16) (c : Fin 16) :
    Frame [.courseCarrier] s (s.partnerPick q pass c) := by
  unfold State.partnerPick
  split
  · exact .ite (setCourseCarrier_frame s _) (.refl _ s)
  · exact .refl _ s

theorem takePick_frame (s : State) (q : StationNo) (pass : Word16) (c : Fin 16) :
    Frame [.carrierTable, .courseCarrier, .counts] s (s.takePick q pass c) := by
  have h : Frame [.carrierTable, .counts] s (if s.onPin c then s.bump .carrierConflicts
      else s.record c (.held q) (s.carrier c).reserved) :=
    .ite (bump_frame s _).mono (record_held_frame s c q _).mono
  exact h.then (partnerPick_frame _ q pass c)

theorem takePark_frame (s : State) (pass : Word16) (c : Fin 16) (x : Word16) :
    Frame ([.carrierTable, .counts] ++ judgeParts) s (s.takePark pass c x) :=
  .ite (bump_frame s _).mono (record_frame s c _ _ true).mono

theorem judgeStart_frame (s : State) (cc : CourseCarrier) :
    Frame judgeParts s (s.judgeStart cc) := by
  unfold State.judgeStart
  refine .ite (deny_frame s cc).mono ?_
  split
  · exact (miss_frame s cc).mono
  · have h := (setCourseCarrier_frame s { cc with expected := some ‹Int› }).mono (m := judgeParts)
    dsimp only
    split
    · exact h
    · exact .ite (h.then (miss_frame _ _)) (.ite (h.then (reached_frame _ _)) h)
  · exact (setCourseCarrier_frame s cc).mono

theorem formCarrier_frame (s : State) (a : Active) :
    Frame (.standbyTake :: judgeParts) s (s.formCarrier a) := by
  unfold State.formCarrier
  split
  · exact (setCarr_course_frame s _ _).mono
  · exact (setCarr_course_frame s _ _).mono
  · exact (setCarr_takes_frame s none).then (judgeStart_frame _ _)

theorem settleCarrier_frame (s : State) : Frame judgeParts s s.settleCarrier := by
  have h : Frame [.pin] s (match s.carr.pin with
      | .engaging c pass dl _ => s.setPin (.engaging c pass dl false)
      | _ => s.startRelease) := by
    split
    · exact setPin_frame s _
    · exact startRelease_frame s
  have k (t : State) : Frame judgeParts t (match t.carr.course with
      | some cc =>
        if cc.source = .own ∧ cc.state = .waiting then t.setCourseFlag .carrierMissed else t
      | none => t) := by
    split
    · exact .ite (setCourseFlag_frame t _).mono (.refl _ t)
    · exact .refl _ t
  have m (u : State) : Frame [.courseCarrier] u (u.setCarr { u.carr with course := none }) := by
    refine .of ?_
    intro p hp
    cases p <;> first | exact absurd (by decide) hp | (simp [Part.same])
  exact (h.then (k _) (n := judgeParts)).then (m _)

theorem resetPin_frame (s : State) :
    Frame [.pin, .transmitList, .counts] s s.resetPin := by
  unfold State.resetPin
  split
  · exact .refl _ s
  · exact (setPin_frame s _).then (offer_frame _ _)
  · exact (setPin_frame s _).then (offer_frame _ _)
  · exact (setPin_frame s _).then (offer_frame _ _)

/-! ### Arrivals -/

theorem chooseRow_frame (s : State) (a : Active) :
    Frame [.rowChoice, .cleanRead, .courseFlags, .causes, .latch] s (s.chooseRow a) := by
  have h (x : Option RowChoice) (b : Bool) : Frame [.rowChoice, .cleanRead] s
      (s.setCourse { s.course with choice := x, cleanRead := b }) := by
    refine .of ?_
    intro p hp
    cases p <;> first | exact absurd (by decide) hp | (simp [Part.same])
  unfold State.chooseRow
  dsimp only
  split
  · exact (h _ _).then (setCourseFlag_frame _ _)
  · exact (h _ _).mono

theorem countArrival_frame (s : State) (a : Active) :
    Frame [.tally, .rowChoice, .cleanRead, .courseFlags, .causes, .latch] s
      (s.countArrival a) := by
  unfold State.countArrival
  exact .ite ((setTally_frame s _).then (chooseRow_frame _ a)) (setTally_frame s _).mono

theorem markOwn_frame (s : State) (a : Active) (n : Nat) (x : Action) :
    Frame [.pages] s (s.markOwn a n x) := by
  unfold State.markOwn
  exact .ite (changePage_frame s _ _) (.refl _ s)

theorem enter_frame (s : State) (n : Nat) (counting : Bool) (x : Action) (guarded : Bool) :
    Frame [.outcomes, .tally, .counts] s (s.enter n counting x guarded) := by
  unfold State.enter
  exact .ite (setDec_outcomes_frame s _).mono (.ite
    (((setDec_outcomes_frame s _).then (setTally_frame _ _) (n := [.outcomes, .tally])).then
      (bump_frame _ _)) (.refl _ s))

theorem handOver_frame (s : State) (a : Active) (n : Nat) (counting : Bool) (x : Action)
    (guarded : Bool) :
    Frame ([.headHeight, .headCode, .headFire, .headWaiting] ++ leaveParts) s
      (s.handOver a n counting x guarded) :=
  ((enter_frame s n counting x guarded).then (request_frame _ _ _ _)
    (n := [.headHeight, .headCode, .headFire, .headWaiting] ++ leaveParts)).then (leave_frame _)

theorem arriveCounting_frame (s : State) (a : Active) (n : Nat) :
    Frame arrivalParts s (s.arriveCounting a n) := by
  have h := countArrival_frame s a
  unfold State.arriveCounting
  refine .ite ?_ ?_
  · exact (h.then (markOwn_frame _ _ _ _) (n := arrivalParts)).then (handOver_frame _ _ _ _ _ _)
  · exact ((h.then (setDec_float_frame _ _) (n := arrivalParts)).then (markOwn_frame _ _ _ _)
      (n := arrivalParts)).then (handOver_frame _ _ _ _ _ _)

theorem arrive_frame (s : State) (n : Nat) : Frame arrivalParts s (s.arrive n) := by
  unfold State.arrive
  split
  · exact .refl _ s
  · exact .ite (arriveCounting_frame s _ n) (handOver_frame s _ _ _ _ _).mono

theorem arriveAll_frame (l : List Nat) (s : State) : Frame arrivalParts s (arriveAll l s) := by
  induction l generalizing s with
  | nil => exact .refl _ s
  | cons n ns ih => exact (arrive_frame s n).then (ih _)

/-! ### Courses -/

theorem prime_frame (s : State) :
    Frame [.orderQueue, .standby, .standbyTake, .transmitList, .counts] s s.prime := by
  have h (q : List Order) (b : Option Standby) : Frame [.orderQueue, .standby] s
      (s.setCourse { s.course with queue := q, standby := b }) := by
    refine .of ?_
    intro p hp
    cases p <;> first | exact absurd (by decide) hp | (simp [Part.same])
  unfold State.prime
  split
  · exact (h _ _).then (standbyTakeFor_frame _ _)
  · exact .refl _ s

theorem refuseOrder_frame (s : State) (r : RefusalReason) :
    Frame [.lastRefusal, .sticky, .counts] s (s.refuseOrder r) := by
  have h : Frame [.lastRefusal] s (s.setCourse { s.course with lastRefusal := some r }) := by
    refine .of ?_
    intro p hp
    cases p <;> first | exact absurd (by decide) hp | (simp [Part.same])
  exact (h.then (setSticky_frame _ _) (n := [.lastRefusal, .sticky])).then (bump_frame _ _)

theorem acceptOrder_frame (s : State) (o : Order) :
    Frame [.pages, .orderQueue, .standby, .standbyTake, .transmitList, .counts] s
      (s.acceptOrder o) := by
  have h : Frame [.pages] s
      (if o.role = .cover then s.setClaim (s.claim.bind o.row s.width) else s) :=
    .ite (bind_frame s _ _) (.refl _ s)
  have k (t : State) (q : List Order) : Frame [.orderQueue] t
      (t.setCourse { t.course with queue := q }) := by
    refine .of ?_
    intro p hp
    cases p <;> first | exact absurd (by decide) hp | (simp [Part.same])
  exact (h.then (k _ _) (n := [.pages, .orderQueue])).then (prime_frame _)

theorem takeOrder_frame (s : State) (b : OrderBody) :
    Frame [.pages, .orderQueue, .standby, .standbyTake, .transmitList, .counts, .lastRefusal,
      .sticky] s (s.takeOrder b) := by
  unfold State.takeOrder
  split
  · exact (refuseOrder_frame s _).mono
  · split
    · exact (refuseOrder_frame s _).mono
    · exact (acceptOrder_frame s _).mono

theorem takeBacking_frame (s : State) (b : BackingBody) :
    Frame [.backingShadow, .sticky] s (s.takeBacking b) := by
  have h (x : Option (List Action)) : Frame [.backingShadow] s
      (s.setCourse { s.course with shadow := x }) := by
    refine .of ?_
    intro p hp
    cases p <;> first | exact absurd (by decide) hp | (simp [Part.same])
  exact .ite (h _).mono (setSticky_frame s _).mono

theorem loadBacking_frame (s : State) (a : Active) :
    Frame [.backingTable, .backingShadow, .backingPhase] s (s.loadBacking a) := by
  refine .of ?_
  intro p hp
  cases p <;> first | exact absurd (by decide) hp | (simp [Part.same, State.loadBacking])

theorem enterVerdict_frame (s : State) (v : Bool) :
    Frame [.history, .causes, .latch] s (s.enterVerdict v) := by
  have h (x : Vector Bool 8) : Frame [.history] s
      (s.setCtl { s.ctl with history := x }) := by
    refine .of ?_
    intro p hp
    cases p <;> first | exact absurd (by decide) hp | (simp [Part.same])
  unfold State.enterVerdict
  exact .ite ((h _).then (raise_frame _ _)) (h _).mono

/-- What a course end changes (R60). -/
def endParts : List Part :=
  [.float, .headWaiting, .headFire, .history, .rowSlots, .rowPinned, .pages, .active, .posFrontier] ++
    leaveParts ++ judgeParts

theorem endCourse_frame (s : State) (a : Active) : Frame endParts s (s.endCourse a) := by
  have k (t : State) : Frame [.active] t (t.setCourse { t.course with active := none }) := by
    refine .of ?_
    intro p hp
    cases p <;> first | exact absurd (by decide) hp | (simp [Part.same])
  have m (t : State) : Frame [.posFrontier] t (t.setPos { t.pos with frontier := none }) := by
    refine .of ?_
    intro p hp
    cases p <;> first | exact absurd (by decide) hp | (simp [Part.same])
  have h3 := ((closeOutcomes_frame s).then (detachFire_frame _) (n := endParts)).then
    (settleCarrier_frame _) (n := endParts)
  have h5 (n : Notice) (v : Bool) := (h3.then (offer_frame _ n) (n := endParts)).then
    (enterVerdict_frame _ v) (n := endParts)
  have h6 (n : Notice) (v : Bool) (row : Word16) (c : Bool) :=
    ((h5 n v).then (releaseRows_frame _ row c) (n := endParts)).then (releasePages_frame _)
      (n := endParts)
  unfold State.endCourse
  exact ((h6 _ _ _ _).then (k _) (n := endParts)).then (m _)

theorem activate_frame (s : State) (dir : Dir) :
    Frame [.sticky, .standby, .active, .expected, .courseFlags, .tally, .causes, .latch] s
      (s.activate dir) := by
  have h1 (b : Bool) : Frame [.sticky] s (if b then s.setSticky .passSkew else s) :=
    .ite (setSticky_frame s _) (.refl _ s)
  have h2 (t : State) (x : Option Active) (e : Option Word16) (y : Tally) (ht : t.course = s.course) :
      Frame [.standby, .active, .expected, .courseFlags, .tally] t
      (t.setCourse { s.course with
        standby := none, active := x, expected := e, flags := 0, tally := y }) := by
    refine .of ?_
    intro p hp
    cases p <;> first | exact absurd (by decide) hp | (simp [Part.same, ht])
  have h3 (t : State) (b : Bool) (f : CourseFlag) :
      Frame [.courseFlags, .causes, .latch] t (if b then t.setCourseFlag f else t) :=
    .ite (setCourseFlag_frame t f) (.refl _ t)
  have hc (b : Bool) : (if b then s.setSticky .passSkew else s).course = s.course := by
    split <;> rfl
  unfold State.activate
  exact ((((h1 _).then (h2 _ _ _ _ (hc _)) (n := [.sticky, .standby, .active, .expected,
    .courseFlags, .tally, .causes, .latch])).then (h3 _ _ _) (n := [.sticky, .standby, .active,
    .expected, .courseFlags, .tally, .causes, .latch])).then (h3 _ _ _) (n := [.sticky, .standby,
    .active, .expected, .courseFlags, .tally, .causes, .latch])).then (h3 _ _ _)

theorem reindex_frame (s : State) : Frame [.posIndices] s s.reindex := by
  refine .of ?_
  intro p hp
  cases p <;> first | exact absurd (by decide) hp | (simp [Part.same, State.reindex])

theorem applyRacking_frame (s : State) (r : Int) :
    Frame [.posRacking, .posIndices] s (s.applyRacking r) := by
  have h : Frame [.posRacking] s (s.setPos { s.pos with racking := r }) := by
    refine .of ?_
    intro p hp
    cases p <;> first | exact absurd (by decide) hp | (simp [Part.same])
  exact h.then (reindex_frame _)

/-- What handing a new context to the blocks changes (steps 7 and 8 of R50). -/
def contextParts : List Part :=
  [.rowChoice, .cleanRead, .posRacking, .posIndices, .float, .openRun, .pages, .standbyTake] ++
    judgeParts

theorem handContext_frame (s : State) (a : Active) :
    Frame contextParts s (s.handContext a) := by
  have h1 : Frame [.rowChoice, .cleanRead] s
      (s.setCourse { s.course with choice := none, cleanRead := false }) := by
    refine .of ?_
    intro p hp
    cases p <;> first | exact absurd (by decide) hp | (simp [Part.same])
  have h3 := (h1.then (applyRacking_frame _ a.order.racking) (n := contextParts)).then
    (setDec_float_frame _ 0) (n := contextParts)
  have h4 := h3.then (setClaim_run_frame _ none) (n := contextParts)
  exact (h4.then (listenPage_frame _ a) (n := contextParts)).then (formCarrier_frame _ a)

/-- What a course start changes (R50). -/
def startParts : List Part :=
  [.sticky, .standby, .active, .expected, .tally, .backingTable, .backingShadow, .backingPhase,
   .orderQueue, .transmitList, .counts] ++ contextParts

theorem startCourse_frame (s : State) (dir : Dir) : Frame startParts s (s.startCourse dir) :=
  (((activate_frame s dir).then (loadBacking_frame _ _) (n := startParts)).then
    (handContext_frame _ _) (n := startParts)).then (prime_frame _)

theorem openFrontier_frame (s : State) :
    Frame (.posFrontier :: arrivalParts) s s.openFrontier := by
  have h (f : Option Int) : Frame [.posFrontier] s (s.setPos { s.pos with frontier := f }) := by
    refine .of ?_
    intro p hp
    cases p <;> first | exact absurd (by decide) hp | (simp [Part.same])
  unfold State.openFrontier
  split
  · exact .refl _ s
  · exact .ite ((h _).then (arrive_frame _ _)) (h _).mono

/-- What a direction change changes (R49, R50, R60). -/
def turnParts : List Part :=
  endParts ++ startParts ++ arrivalParts

theorem directionChange_frame (s : State) (dir : Dir) :
    Frame turnParts s (s.directionChange dir) := by
  unfold State.directionChange
  split
  · exact .refl _ s
  · exact .refl _ s
  · have h : Frame turnParts s (match s.course.active with
        | some a => s.endCourse a
        | none => s) := by
      split
      · exact (endCourse_frame s _).mono
      · exact .refl _ s
    exact (h.then (startCourse_frame _ dir) (n := turnParts)).then (openFrontier_frame _)

/-! ### The encoder -/

theorem form_frame (s : State) : Frame (.posIndices :: judgeParts) s s.form := by
  unfold State.form
  dsimp only
  split
  · exact .ite (reindex_frame s).mono ((reindex_frame s).then (pinMoved_frame _ _ _))
  · exact (reindex_frame s).mono

theorem arrivals_frame (s : State) : Frame (.posFrontier :: arrivalParts) s s.arrivals := by
  have h (f : Option Int) : Frame [.posFrontier] s (s.setPos { s.pos with frontier := f }) := by
    refine .of ?_
    intro p hp
    cases p <;> first | exact absurd (by decide) hp | (simp [Part.same])
  unfold State.arrivals
  split
  · exact .ite ((h _).then (arriveAll_frame _ _)) (.refl _ s)
  · exact .refl _ s

/-- What a counted edge changes. -/
def countParts : List Part :=
  [.posC, .posTracker, .posIndices] ++ judgeParts ++ turnParts

theorem countTo_frame (s : State) (c : Int) : Frame countParts s (s.countTo c) := by
  have h (t : Tracker) : Frame [.posC, .posTracker] s
      (s.setPos { s.pos with c := c, tracker := t }) := by
    refine .of ?_
    intro p hp
    cases p <;> first | exact absurd (by decide) hp | (simp [Part.same])
  have k (t : Tracker) := (h t).then (form_frame _) (n := countParts)
  unfold State.countTo
  dsimp only
  split
  · exact (k _).then (directionChange_frame _ _)
  · exact (k _).then (arrivals_frame _)

theorem legalEdge_frame (s : State) (d : Int) :
    Frame (.sticky :: countParts) s (s.legalEdge d) :=
  .ite (countTo_frame s _).mono (setSticky_frame s _).mono

theorem checkSlip_frame (s : State) (r : SetupRec) :
    Frame [.sticky, .causes, .latch] s (s.checkSlip r) :=
  .ite ((setSticky_frame s _).then (raise_frame _ _)) (.refl _ s)

/-! ### The line and station control -/

theorem endMark_frame (s : State) : Frame noticeParts s s.endMark := by
  refine .of ?_
  intro p hp
  cases p <;> first | exact absurd (by decide) hp | (simp [Part.same, State.endMark])

theorem clash_frame (s : State) : Frame clashParts s s.clash :=
  (setSticky_frame s _).then (raise_frame _ _)

theorem degrade_frame (s : State) :
    Frame [.health, .cleanWindows, .counts, .courseFlags] s s.degrade := by
  have h : Frame [.health, .cleanWindows] s
      (s.setLine { s.line with degraded := true, cleanWindows := 0 }) := by
    refine .of ?_
    intro p hp
    cases p <;> first | exact absurd (by decide) hp | (simp [Part.same])
  have k := h.then (bump_frame _ .degradations) (n := [.health, .cleanWindows, .counts])
  unfold State.degrade
  exact .ite (k.then (setCourseFlag_frame_of_none _ .lineDegraded rfl)) k.mono

theorem noteError_frame (s : State) :
    Frame [.windowErrors, .health, .cleanWindows, .counts, .courseFlags] s s.noteError := by
  have h (n : Nat) : Frame [.windowErrors] s
      (s.setLine { s.line with windowErrors := n }) := by
    refine .of ?_
    intro p hp
    cases p <;> first | exact absurd (by decide) hp | (simp [Part.same])
  unfold State.noteError
  split
  · exact .refl _ s
  · exact .ite ((h _).then (degrade_frame _)) (h _).mono

/-- A notice that is heard changes the receiver and what its meaning changes; one that is not, nothing. -/
theorem heard_frame (s : State) (f : State → State) (l m : List Part)
    (hf : Frame l s.endMark (f s.endMark)) (hl : ∀ p ∈ l, p ∈ m) (hn : ∀ p ∈ noticeParts, p ∈ m) :
    Frame m s (s.heard f) :=
  .ite ((endMark_frame s).then hf hn hl) (.refl _ s)

theorem fromPeer_frame (s : State) (q : StationNo) (f : State → State) (l m : List Part)
    (hf : Frame l s.endMark (f s.endMark)) (hl : ∀ p ∈ l, p ∈ m)
    (hc : ∀ p ∈ clashParts ++ noticeParts, p ∈ m) : Frame m s (s.fromPeer q f) :=
  heard_frame s _ m m
    (.ite ((clash_frame _).mono fun p hp => hc p (List.mem_append_left _ hp)) (hf.mono hl))
    (fun _ hp => hp) (fun p hp => hc p (List.mem_append_right _ hp))

theorem offerParts_frame (page k : Nat) (l : List (List Byte)) (s : State) :
    Frame [.transmitList, .counts] s (offerParts page k l s) := by
  induction l generalizing s k with
  | nil => exact .refl _ s
  | cons b bs ih => exact (offer_frame s _).then (ih _ _)

theorem ifAddressed_frame (s : State) (target : BitVec 5) (f : State → State) (l m : List Part)
    (hf : Frame l s.endMark (f s.endMark)) (hl : ∀ p ∈ l, p ∈ m)
    (hn : ∀ p ∈ noticeParts, p ∈ m) : Frame m s (s.ifAddressed target f) :=
  heard_frame s _ l m (.ite hf (.refl _ _)) hl hn

theorem ifMasked_frame (s : State) (mask : Flags16) (f : State → State) (l m : List Part)
    (hf : Frame l s.endMark (f s.endMark)) (hl : ∀ p ∈ l, p ∈ m)
    (hn : ∀ p ∈ noticeParts, p ∈ m) : Frame m s (s.ifMasked mask f) :=
  heard_frame s _ l m (.ite hf (.refl _ _)) hl hn

theorem filtered_frame (s : State) (f : State → State) (l m : List Part) (hf : Frame l s (f s))
    (hl : ∀ p ∈ l, p ∈ m) (hc : ∀ p ∈ [Part.counts], p ∈ m) : Frame m s (s.filtered f) := by
  unfold State.filtered
  split
  · exact (bump_frame s _).mono hc
  · exact hf.mono hl

theorem drop_frame (s : State) (n : Notice) :
    Frame [.transmitList, .sending, .guardOff] s (s.setLine (s.line.drop n)) := by
  refine .of ?_
  intro p hp
  cases p <;> first | exact absurd (by decide) hp | (simp [Part.same, Line.drop])

theorem standBack_frame (s : State) : Frame [.sending, .guardOff] s s.standBack := by
  refine .of ?_
  intro p hp
  cases p <;> first | exact absurd (by decide) hp | (simp [Part.same, State.standBack])

theorem toldSent_frame (s : State) (n : Notice) :
    Frame [.carrierTable, .standbyTake, .courseCarrier] s (s.toldSent n) := by
  unfold State.toldSent
  split
  · exact takeSent_frame _ _ _
  · exact .refl _ s

theorem toldLost_frame (s : State) (n : Notice) :
    Frame [.standbyTake, .courseCarrier, .courseFlags, .causes, .latch] s (s.toldLost n) := by
  unfold State.toldLost
  split
  · exact loseTake_frame _ _ _
  · exact .refl _ s

end Sys2Proof.Machine
end

