-- ==== Sys2Proof/Laws/Line.lean ====
section
/-! SUPPORT. What a notice that joins the transmit list does to it (R156), when a notice is heard (R151) and
when a transmission may start (R150, R157). -/

namespace Sys2Proof.Machine

theorem Notice.cls_le (n : Notice) : n.cls ≤ 3 := by cases n <;> simp [Notice.cls]

/-- A joining notice lengthens the list by one. -/
@[simp] theorem joinList_length (n : Notice) (l : List Notice) : (joinList n l).length = l.length + 1 := by
  induction l with
  | nil => rfl
  | cons m ms ih => unfold joinList; split <;> simp [ih]

/-- The notices of the list after a join. -/
@[simp] theorem mem_joinList (n x : Notice) (l : List Notice) : x ∈ joinList n l ↔ x = n ∨ x ∈ l := by
  induction l with
  | nil => simp [joinList]
  | cons m ms ih =>
    unfold joinList; split
    · simp
    · simp only [List.mem_cons, ih]; tauto

/-- A join keeps the list ordered by class. -/
theorem joinList_ordered (n : Notice) (l : List Notice)
    (h : l.Pairwise fun a b => a.cls ≤ b.cls) : (joinList n l).Pairwise fun a b => a.cls ≤ b.cls := by
  induction l with
  | nil => simp [joinList]
  | cons m ms ih =>
    obtain ⟨hm, hms⟩ := List.pairwise_cons.1 h
    unfold joinList; split
    · rename_i hlt
      refine List.pairwise_cons.2 ⟨fun x hx => ?_, h⟩
      rcases List.mem_cons.1 hx with rfl | hx
      · omega
      · have := hm x hx; omega
    · rename_i hge
      refine List.pairwise_cons.2 ⟨fun x hx => ?_, ih hms⟩
      rcases (mem_joinList n x ms).1 hx with rfl | hx
      · omega
      · exact hm x hx

/-- A notice of the highest class number joins at the end. -/
theorem joinList_last (n : Notice) (l : List Notice) (h : n.cls = 3) : joinList n l = l ++ [n] := by
  induction l with
  | nil => rfl
  | cons m ms ih =>
    have := m.cls_le
    unfold joinList; rw [if_neg (by omega), ih]; rfl

/-- With room an offered notice joins the list, and nothing else of the station changes. -/
theorem State.offer_room (s : State) (n : Notice) (h : s.line.list.length < 16) :
    s.offer n = s.setLine { s.line with list := joinList n s.line.list } := by
  exact if_pos (decide_eq_true h)

/-- With the list full an offered notice is counted by its kind and dropped. -/
theorem State.offer_full (s : State) (n : Notice) (h : 16 ≤ s.line.list.length) :
    s.offer n = s.bump n.dropCounter := by
  exact if_neg fun k => Nat.not_lt.2 h (of_decide_eq_true k)

/-- The receiver hears a notice when it is IDLE or RECEIVING (R151). -/
theorem State.hears_iff (s : State) :
    s.hears = true ↔ s.line.receiver = .idle ∨ s.line.receiver = .receiving := by
  unfold State.hears
  cases s.line.receiver <;> simp

/-- A notice that is heard is taken at its end mark. -/
theorem State.heard_of_hears {s : State} (h : s.hears = true) (f : State → State) :
    s.heard f = f s.endMark := if_pos h

/-- A notice that is not heard changes nothing. -/
theorem State.heard_of_deaf {s : State} (h : s.hears = false) (f : State → State) : s.heard f = s :=
  if_neg (by simp [h])

/-- A transmission may start exactly in the situation of R150 and R157. -/
theorem State.mayStart_iff (s : State) :
    s.mayStart = true ↔ s.line.sending = none ∧ s.line.guardCut = false ∧ s.line.receiver = .idle ∧
      3 ≤ s.line.idleTime := by
  simp [State.mayStart, Config.idleNeeded, and_assoc]
  exact fun _ _ _ => decide_eq_true_iff

end Sys2Proof.Machine
end

