-- ==== Sys2Proof/Laws/PerInstr.lean ====
section
/-! SUPPORT. One lemma per command: no command's footprint takes in the queue of commands, and only a hard
reset's takes in the straps (R175). -/

namespace Sys2Proof.Laws.Footprint

open Sys2Proof.Machine

/-- The queue is in no footprint, the straps only in a hard reset's. -/
def Statement (i : Instr) : Prop :=
  Part.pending ∉ footprint i ∧
  (Part.straps ∈ footprint i → ∃ x a b r, i = .hardReset x a b r)

theorem encoderEdge (a b : Bool) : Statement (.encoderEdge a b) :=
  ⟨by simp only [footprint]; decide, fun h => absurd h (by simp only [footprint]; decide)⟩

theorem referenceMark : Statement (.referenceMark) :=
  ⟨by simp only [footprint]; decide, fun h => absurd h (by simp only [footprint]; decide)⟩

theorem headConfirm : Statement (.headConfirm) :=
  ⟨by simp only [footprint]; decide, fun h => absurd h (by simp only [footprint]; decide)⟩

theorem fireDeadline : Statement (.fireDeadline) :=
  ⟨by simp only [footprint]; decide, fun h => absurd h (by simp only [footprint]; decide)⟩

theorem railInputChange (level : Bool) : Statement (.railInputChange level) :=
  ⟨by simp only [footprint]; decide, fun h => absurd h (by simp only [footprint]; decide)⟩

theorem railFilterExpiry : Statement (.railFilterExpiry) :=
  ⟨by simp only [footprint]; decide, fun h => absurd h (by simp only [footprint]; decide)⟩

theorem pinConfirm : Statement (.pinConfirm) :=
  ⟨by simp only [footprint]; decide, fun h => absurd h (by simp only [footprint]; decide)⟩

theorem engagementDeadline : Statement (.engagementDeadline) :=
  ⟨by simp only [footprint]; decide, fun h => absurd h (by simp only [footprint]; decide)⟩

theorem releaseDeadline : Statement (.releaseDeadline) :=
  ⟨by simp only [footprint]; decide, fun h => absurd h (by simp only [footprint]; decide)⟩

theorem span (body : SpanBody) : Statement (.span body) :=
  ⟨by simp only [footprint]; decide, fun h => absurd h (by simp only [footprint]; decide)⟩

theorem close (body : CloseBody) : Statement (.close body) :=
  ⟨by simp only [footprint]; decide, fun h => absurd h (by simp only [footprint]; decide)⟩

theorem order (target : BitVec 5) (body : OrderBody) : Statement (.order target body) :=
  ⟨by simp only [footprint]; decide, fun h => absurd h (by simp only [footprint]; decide)⟩

theorem backing (target : BitVec 5) (body : BackingBody) : Statement (.backing target body) :=
  ⟨by simp only [footprint]; decide, fun h => absurd h (by simp only [footprint]; decide)⟩

theorem place (carrier : Byte) (position : Word16) : Statement (.place carrier position) :=
  ⟨by simp only [footprint]; decide, fun h => absurd h (by simp only [footprint]; decide)⟩

theorem take (sender : StationNo) (pass : Word16) (carrier : Byte) : Statement (.take sender pass carrier) :=
  ⟨by simp only [footprint]; decide, fun h => absurd h (by simp only [footprint]; decide)⟩

theorem pick (sender : StationNo) (pass : Word16) (carrier : Byte) : Statement (.pick sender pass carrier) :=
  ⟨by simp only [footprint]; decide, fun h => absurd h (by simp only [footprint]; decide)⟩

theorem park (sender : StationNo) (pass : Word16) (carrier : Byte) (position : Word16) :
    Statement (.park sender pass carrier position) :=
  ⟨by simp only [footprint]; decide, fun h => absurd h (by simp only [footprint]; decide)⟩

theorem claim (sender : StationNo) (body : ClaimBody) : Statement (.claim sender body) :=
  ⟨by simp only [footprint]; decide, fun h => absurd h (by simp only [footprint]; decide)⟩

theorem report (sender : StationNo) (body : BitVec 176) : Statement (.report sender body) :=
  ⟨by simp only [footprint]; decide, fun h => absurd h (by simp only [footprint]; decide)⟩

theorem status (sender : StationNo) (body : BitVec 256) : Statement (.status sender body) :=
  ⟨by simp only [footprint]; decide, fun h => absurd h (by simp only [footprint]; decide)⟩

theorem setup (target : BitVec 5) (body : SetupBody) : Statement (.setup target body) :=
  ⟨by simp only [footprint]; decide, fun h => absurd h (by simp only [footprint]; decide)⟩

theorem reset (target : BitVec 5) : Statement (.reset target) :=
  ⟨by simp only [footprint]; decide, fun h => absurd h (by simp only [footprint]; decide)⟩

theorem clearStop (target : BitVec 5) : Statement (.clearStop target) :=
  ⟨by simp only [footprint]; decide, fun h => absurd h (by simp only [footprint]; decide)⟩

theorem clearSticky (target : BitVec 5) : Statement (.clearSticky target) :=
  ⟨by simp only [footprint]; decide, fun h => absurd h (by simp only [footprint]; decide)⟩

theorem queryPage0 (target : BitVec 5) (clear : Byte) : Statement (.queryPage0 target clear) :=
  ⟨by simp only [footprint]; decide, fun h => absurd h (by simp only [footprint]; decide)⟩

theorem queryPage1 (target : BitVec 5) (clear : Byte) : Statement (.queryPage1 target clear) :=
  ⟨by simp only [footprint]; decide, fun h => absurd h (by simp only [footprint]; decide)⟩

theorem queryPage2 (target : BitVec 5) (clear : Byte) : Statement (.queryPage2 target clear) :=
  ⟨by simp only [footprint]; decide, fun h => absurd h (by simp only [footprint]; decide)⟩

theorem queryUnknownPage (target : BitVec 5) (page clear : Byte) :
    Statement (.queryUnknownPage target page clear) :=
  ⟨by simp only [footprint]; decide, fun h => absurd h (by simp only [footprint]; decide)⟩

theorem lineError (kind : LineErrorKind) : Statement (.lineError kind) :=
  ⟨by simp only [footprint]; decide, fun h => absurd h (by simp only [footprint]; decide)⟩

theorem symbolError : Statement (.symbolError) :=
  ⟨by simp only [footprint]; decide, fun h => absurd h (by simp only [footprint]; decide)⟩

theorem foreignNotice (kind sender : BitVec 5) : Statement (.foreignNotice kind sender) :=
  ⟨by simp only [footprint]; decide, fun h => absurd h (by simp only [footprint]; decide)⟩

theorem addressClash (kind : BitVec 5) : Statement (.addressClash kind) :=
  ⟨by simp only [footprint]; decide, fun h => absurd h (by simp only [footprint]; decide)⟩

theorem receiverIdle : Statement (.receiverIdle) :=
  ⟨by simp only [footprint]; decide, fun h => absurd h (by simp only [footprint]; decide)⟩

theorem transmitStart : Statement (.transmitStart) :=
  ⟨by simp only [footprint]; decide, fun h => absurd h (by simp only [footprint]; decide)⟩

theorem noticeSent : Statement (.noticeSent) :=
  ⟨by simp only [footprint]; decide, fun h => absurd h (by simp only [footprint]; decide)⟩

theorem arbitrationLost : Statement (.arbitrationLost) :=
  ⟨by simp only [footprint]; decide, fun h => absurd h (by simp only [footprint]; decide)⟩

theorem sendCollision : Statement (.sendCollision) :=
  ⟨by simp only [footprint]; decide, fun h => absurd h (by simp only [footprint]; decide)⟩

theorem guardCut : Statement (.guardCut) :=
  ⟨by simp only [footprint]; decide, fun h => absurd h (by simp only [footprint]; decide)⟩

theorem guardReturn : Statement (.guardReturn) :=
  ⟨by simp only [footprint]; decide, fun h => absurd h (by simp only [footprint]; decide)⟩

theorem lineWindowEnd : Statement (.lineWindowEnd) :=
  ⟨by simp only [footprint]; decide, fun h => absurd h (by simp only [footprint]; decide)⟩

theorem hardReset (straps : BitVec 6) (a b rail : Bool) : Statement (.hardReset straps a b rail) :=
  ⟨by simp only [footprint]; decide, fun _ => ⟨straps, a, b, rail, rfl⟩⟩

theorem startMark : Statement (.startMark) :=
  ⟨by simp only [footprint]; decide, fun h => absurd h (by simp only [footprint]; decide)⟩

end Sys2Proof.Laws.Footprint
end

