-- ==== Sys2Proof/Laws/Rows.lean ====
section
/-! SUPPORT. What the row store's own operations do to its slots (R24, R27, R36). -/

namespace Sys2Proof.Machine

/-- Replacing a slot replaces that slot alone. -/
theorem RowStore.put_slot (u : RowStore) (i j : Fin 4) (x : Option Slot) :
    (u.put i x).slots[j] = if i = j then x else u.slots[j] := by
  unfold RowStore.put
  by_cases h : i = j
  · subst h; simp
  · have : i.val ≠ j.val := fun e => h (Fin.ext e)
    simp [h, this]

/-- A change of every slot, slot by slot. -/
theorem RowStore.mapSlots_slot (u : RowStore) (f : Option Slot → Option Slot) (j : Fin 4) :
    (u.mapSlots f).slots[j] = f u.slots[j] := by
  unfold RowStore.mapSlots
  revert j; rw [Fin.forall_fin_succ]; simp [Fin.forall_fin_succ]

/-- A freed slot is FREE, and the arrival numbers above its own are lowered by one. -/
theorem RowStore.free_slot (u : RowStore) (i j : Fin 4) (x : Slot) (h : u.slots[i] = some x) :
    (u.free i).slots[j] = if i = j then none else
      u.slots[j].map fun z => if x.seq < z.seq then { z with seq := z.seq - 1 } else z := by
  unfold RowStore.free
  rw [h]
  simp only [RowStore.mapSlots_slot, RowStore.put_slot]
  split <;> simp

/-- A taken slot is FILLING, empty and the newest. -/
theorem RowStore.takeSlot_slot (u : RowStore) (i j : Fin 4) (row : Word16) :
    (u.takeSlot i row).slots[j] = if i = j then
      some { state := .filling, row := row, seq := u.newestSeq + 1, count := 0, spans := [] }
    else u.slots[j] := RowStore.put_slot u i j _

end Sys2Proof.Machine
end

