-- ==== Sys2Proof/Tests/Slice0.lean ====
section
/-! SUPPORT. The tests: ill-formed commands are refused, the spec's worked figures come out of the model,
and for each statement one theorem shows states that meet its hypotheses, clause by clause. -/

namespace Sys2Proof.Tests

open Sys2Proof.Machine

/-! ### Small states -/

/-- A setup record at the lower ends of its ranges: W = 16, 8 counts to the needle. -/
def rec0 : SetupRec where
  width := 16
  pitch := 2048
  kref := 0
  offset := 0
  phase := 0
  anticipation := 0
  rounding := .trunc
  unheard := .fill
  rowPolicy := .hold
  fireDeadline := 2
  faultLimit := 1
  floatLimit := 2
  runLimit := 2
  tolerance := 0
  errorThreshold := 1
  pinOffset := 0
  drop := 0
  unclean := 0

/-- A PATTERN order over the whole bed. -/
def order0 : Order where
  pass := 7
  row := 1
  courseType := .knit
  direction := .right
  role := .pattern
  selected := .knit
  unselected := .miss
  colours := 2
  listen := 6
  carrier := none
  source := .own
  announce := false
  floatTie := true
  winFirst := 0
  winLast := 15
  racking := 0
  step := 1

/-- The station after reset, its receiver IDLE. -/
def hearing : State := State.reset.setLine { State.reset.line with receiver := .idle, idleTime := 3 }

/-- READY, travelling RIGHT, station 0, a carrier owner with a good rail, the head LOW and the line idle. -/
def ready : State :=
  let s := hearing
  let s := s.setCtl { s.ctl with owner := true, mode := .ready rec0 }
  let s := s.setHead { s.head with railGood := true, railLevel := true, height := some .low }
  s.setPos { s.pos with tracker := .right 0, idx := some ⟨0, 0, 0⟩ }

/-- RUN, between courses. -/
def run : State := ready.setCtl { ready.ctl with mode := .run rec0 }

/-- A CLOSED row 1 in slot 0, its first four needles colour 1. -/
def rows0 : RowStore :=
  ({ slots := Vector.replicate 4 none, pinned := none } : RowStore).put 0
    (some { state := .closed, row := 1, seq := 1, count := 1, spans := [⟨0, 3, 1⟩] })

/-- The course of an order, its row choice made. -/
def courseOf (o : Order) : State :=
  (run.setRows rows0).setCourse { run.course with
    active := some ⟨o, .primed, .right, false⟩, choice := some .own, cleanRead := true }

/-- A running course of `order0`. -/
def course : State := (courseOf order0).setPos { run.pos with frontier := some 0 }

/-- The station after a command. -/
def after (c : Instr) (s : State) : State :=
  match exec c s with
  | .next t => t
  | _ => s

/-- The station with another pin. -/
def withPin (s : State) (p : Pin) : State := s.setPin p

/-- The station with carrier 3 PARKED at needle 5 and this reservation. -/
def parked (s : State) (r : Option Reservation) : State := s.setCarrier 3 ⟨.parked 5, r⟩

/-- A waiting course carrier of the running course: carrier 3, its own, the take made. -/
def waiting : CourseCarrier where
  carrier := 3
  source := .own
  pass := 7
  travel := .right
  winFirst := 0
  winLast := 15
  take := some .made
  expected := some 5
  state := .waiting

/-- The station with a course carrier. -/
def withCarrier (s : State) (cc : CourseCarrier) : State := s.setCourseCarrier cc

/-- The station with another head. -/
def withHead (s : State) (f : Head → Head) : State := s.setHead (f s.head)

/-- The station with this transmit list. -/
def withList (s : State) (l : List Notice) : State := s.setLine { s.line with list := l }

/-! ### Well-formed commands, and words -/

/-- R188: a QUERY of page 0, 1 or 2 is a row of its own. -/
theorem test_wf_known_page_is_no_unknown_page :
    Instr.wf (.queryUnknownPage 0 0 0) = false ∧ Instr.wf (.queryUnknownPage 0 1 0) = false ∧
    Instr.wf (.queryUnknownPage 0 2 0) = false ∧ Instr.wf (.queryUnknownPage 0 3 0) = true ∧
    Instr.wf (.queryUnknownPage 0 255 1) = true := by decide

/-- R161: what is not foreign is no foreign notice. -/
theorem test_wf_own_kinds_are_not_foreign :
    Instr.wf (.foreignNotice 0x10 31) = false ∧ Instr.wf (.foreignNotice 0x00 15) = false ∧
    Instr.wf (.foreignNotice 0x10 4) = true ∧ Instr.wf (.foreignNotice 0x00 16) = true ∧
    Instr.wf (.foreignNotice 0x05 31) = true := by decide

/-- No row of the table has bits. -/
theorem test_no_word_spells_a_command : decodeTableWord 8 0 = none ∧ decodeTableWord 32 1289 = none := by
  decide

/-! ### The spec's worked figures -/

/-- 1.4, first case: P_q = 54,187, under TRUNC and NEAREST. -/
theorem test_worked_quotients :
    roundDiv .trunc 27545600 54187 = 508 ∧ roundDiv .nearest 27545600 54187 = 508 ∧
    roundDiv .trunc 27571200 54187 = 508 ∧ roundDiv .nearest 27571200 54187 = 509 ∧
    roundDiv .trunc 27468800 54187 = 506 ∧ roundDiv .nearest 27468800 54187 = 507 ∧
    roundDiv .nearest 27413504 54187 = 506 := by decide

/-- 1.4, second case: the ties, P_q = 51,200. -/
theorem test_worked_ties :
    roundDiv .nearest 128000 51200 = 2 ∧ roundDiv .trunc 128000 51200 = 2 ∧
    roundDiv .nearest 179200 51200 = 4 ∧ roundDiv .trunc 179200 51200 = 3 ∧
    roundDiv .nearest (-25600) 51200 = 0 ∧ roundDiv .trunc (-25600) 51200 = 0 ∧
    roundDiv .nearest (-51199) 51200 = -1 ∧ roundDiv .trunc (-51199) 51200 = 0 := by decide

/-- R1: travel to the RIGHT passes (0,0), (1,0), (1,1), (0,1). -/
theorem test_edge_table :
    judgeEdge false false true false = .up ∧ judgeEdge true true true false = .down ∧
    judgeEdge false true true false = .illegal ∧ judgeEdge false true false true = .still := by decide

/-- 2.4: the list before the last two coloured lines of the table. -/
def list4 : List Span := [⟨10, 29, 2⟩, ⟨30, 34, 5⟩, ⟨45, 49, 2⟩, ⟨50, 59, 7⟩, ⟨60, 99, 2⟩]

/-- 2.4: the insertions of the table and their counts. -/
theorem test_worked_insertions :
    paint 40 69 2 [⟨10, 29, 2⟩, ⟨30, 59, 5⟩, ⟨60, 99, 2⟩] = [⟨10, 29, 2⟩, ⟨30, 39, 5⟩, ⟨40, 99, 2⟩] ∧
    paintCount 40 69 2 [⟨10, 29, 2⟩, ⟨30, 59, 5⟩, ⟨60, 99, 2⟩] = 3 ∧
    paint 35 44 0 [⟨10, 29, 2⟩, ⟨30, 39, 5⟩, ⟨40, 99, 2⟩] = [⟨10, 29, 2⟩, ⟨30, 34, 5⟩, ⟨45, 99, 2⟩] ∧
    paint 50 59 7 [⟨10, 29, 2⟩, ⟨30, 34, 5⟩, ⟨45, 99, 2⟩] = list4 ∧
    paintCount 50 59 7 [⟨10, 29, 2⟩, ⟨30, 34, 5⟩, ⟨45, 99, 2⟩] = 5 ∧
    paint 30 34 2 list4 = [⟨10, 34, 2⟩, ⟨45, 49, 2⟩, ⟨50, 59, 7⟩, ⟨60, 99, 2⟩] ∧
    paintCount 30 34 2 list4 = 4 ∧ colourAt 47 list4 = 2 ∧ colourAt 40 list4 = 0 := by decide

/-- 8.2: a CLAIM from station 2 has the head 0x502, a TAKE from station 3 0x003. -/
theorem test_worked_heads :
    numberOf ((Notice.claim 0 0 0 1 .none).bits 2 |>.take 12) = 0x502 ∧
    numberOf ((Notice.take 0 0).bits 3 |>.take 12) = 0x003 := by decide

set_option maxRecDepth 8000 in
/-- R153: the check of the nine characters 1 to 9 is 0x29B1, the published value of this generator with
the register preset to ones and no inversion. -/
theorem test_check_register :
    checkOf (bitsOfBytes [0x31, 0x32, 0x33, 0x34, 0x35, 0x36, 0x37, 0x38, 0x39]) = 0x29B1 := by decide

/-- 8, worked example: a TAKE takes 54 bit times with its marks, a CLAIM 94. -/
theorem test_worked_lengths :
    ((Notice.take 0 0).bits 3).length + 2 = 54 ∧
    ((Notice.claim 0 0 0 1 .none).bits 3).length + 2 = 94 := by decide

/-- 8, worked example: against station 3's TAKE, station 2's CLAIM stands back at the 2nd bit of the head
and station 5's TAKE at the 10th; the start mark is the cell before the 1st. -/
theorem test_worked_arbitration :
    (standsBackAt (halvesOf ((Notice.claim 0 0 0 1 .none).bits 2))
      (halvesOf ((Notice.take 0 0).bits 3))).map (· / 2) = some 2 ∧
    (standsBackAt (halvesOf ((Notice.take 0 0).bits 5))
      (halvesOf ((Notice.take 0 0).bits 3))).map (· / 2) = some 10 := by decide

set_option maxRecDepth 8000 in
/-- R159: a bit heard wrong fails the check. -/
theorem test_damaged_check :
    sortNotice 1 (((Notice.take 7 3).bits 2).set 20 true) = [.lineError .check] := by decide

/-- 4, worked example: with F = 3 a MISS at a float count of 2 becomes a TUCK. -/
theorem test_worked_tie : tie 3 2 .miss = (.tuck, 0) ∧ tie 3 1 .miss = (.miss, 2) := by decide

/-! ### Witnesses: the station as a whole -/

theorem witness_StepRunsTheFrontCommand :
    (ready.setPending [.headConfirm]).pending = [.headConfirm] ∧ ready.pending = [] := by decide

/-- A newly recorded cause; a latch that falls at a clear-stop and at a hard reset; and each level cause
that ends. -/
theorem witness_StopCausesHoldTheLatchUntilTheirEnd :
    (let s := after .railFilterExpiry (after (.railInputChange false) ready)
     ready.isRecorded .railLow = false ∧ s.isRecorded .railLow = true ∧ s.head.railCause = true ∧
     s.ctl.latch = true ∧ (after (.clearStop 31) s).ctl.latch = true ∧
     (after (.hardReset 0 false false false) s).ctl.latch = false ∧
     (after .railFilterExpiry (after (.railInputChange true) s)).head.railCause = false) ∧
    (let s := ready.raise .slip
     s.ctl.latch = true ∧ (after (.clearStop 0) s).ctl.latch = false) ∧
    (let s := ready.setHead { ready.head with disabled := true }
     (after (.reset 31) s).head.disabled = false) ∧
    (let s := ready.setLine { ready.line with guardCut := true }
     (after .guardReturn s).line.guardCut = false) := by decide

/-- A SETUP body at the lower ends of the ranges. -/
def body0 : SetupBody where
  width := 16
  pitch := 2048
  kref := 0
  offset := 0
  phase := 0
  anticipation := 0
  nearest := false
  trust := false
  useRow := false
  fireDeadline := 2
  faultLimit := 1
  floatLimit := 0
  runLimit := 1
  tolerance := 0
  errorThreshold := 1
  pinOffset := 0
  drop := 0
  unclean := 0

theorem witness_StationStateMovesOnlyForward :
    State.reset.ctl.mode = .setup ∧
    (after (.setup 0 body0) hearing).ctl.mode = .ready { rec0 with floatLimit := 0, runLimit := 1 } ∧
    (after .referenceMark ready).ctl.mode = .run rec0 ∧
    (after (.hardReset 0 false false false) run).ctl.mode = .setup ∧
    (after .headConfirm ready).setup? = some rec0 := by decide

theorem witness_FlagsAndCountersFallOnlyAtTheirClears :
    (let s := ((ready.setSticky .slip).raise .slip).bump .railDrops
     s.isSticky .slip = true ∧ (after (.clearSticky 31) s).isSticky .slip = false ∧
     s.isRecorded .slip = true ∧ (after (.clearSticky 0) s).isRecorded .slip = false ∧
     (after (.hardReset 0 false false false) s).isSticky .slip = false ∧
     s.count .railDrops = 1 ∧ (after (.queryPage1 0 1) s).count .railDrops = 0 ∧
     (after (.hardReset 0 false false false) s).count .railDrops = 0) := by decide

/-- The carriage 16 counts below the extreme mark at its next edge to the left. -/
def turning (s : State) : State := s.setPos { s.pos with c := -15, tracker := .right 0 }

theorem witness_CourseStateChangesAtTurnsAndResets :
    (turning run).running = false ∧ (after (.encoderEdge false true) (turning run)).running = true ∧
    course.running = true ∧ (after (.reset 0) course).running = false ∧
    (after (.hardReset 0 false false false) course).running = false := by decide

/-! ### Witnesses: invariants, by a running course with an edge at the front of the queue -/

/-- The running course with an edge waiting. -/
def moving : State := course.setPending [.encoderEdge true false]

/-- The station after the edge has run. -/
def moved : State := after (.encoderEdge true false) course

theorem witness_step_of_moving : step moving = .next moved := rfl

theorem witness_StepKeepsThePositionUnitInStep : moving.PositionAgrees := by
  refine ⟨?_, by decide, by decide, ?_, by decide, by decide, by decide, fun _ => ⟨rec0, rfl⟩⟩
  rotate_left
  · show (0 : Int) ≤ 0 ∧ (0 : Int) - 16 < 0
    decide
  intro r h
  obtain rfl : rec0 = r := Option.some.inj h
  unfold SetupRec.inRange
  decide

theorem witness_StepKeepsTheDecisionUnit : moving.Accounted ∧ moving.FloatBelowLimit := by
  refine ⟨⟨fun h => absurd h (by decide), by decide⟩, fun h => absurd h (by decide), fun _ _ => .inl rfl⟩

/-- The moving station with an open run one short of the run limit, the fault count one short of the fault
limit, and a claim page with both counts full. -/
def movingRun : State :=
  moving.setClaim { page0 := some { freshPage 1 16 with doubles := 65535, lateDoubles := 65535 },
                    page1 := none, run := some ⟨3, 3, 1, .loop⟩ }

theorem witness_StepKeepsTheListsAndCountsInBounds :
    movingRun.ListOrdered ∧ movingRun.WithinLimits ∧ movingRun.RunBelowLimit ∧
    movingRun.PositionAgrees ∧ movingRun.HeadAgrees ∧ movingRun.FaultsWithinLimit := by
  refine ⟨⟨by decide, by decide⟩, ⟨fun k => ?_, by decide, by decide, by decide, by decide, by decide,
    fun l h => ?_, fun p h => ?_, fun p h => ?_, by decide, by decide⟩, ⟨fun h => ?_, fun r x h k => ?_⟩,
    witness_StepKeepsThePositionUnitInStep, ⟨by decide, by decide, by decide⟩, ⟨fun h => ?_, fun r h => ?_⟩⟩
  · cases k <;> decide
  · cases h
  · cases h; exact ⟨by decide, by decide⟩
  · cases h
  · cases h
  · cases h; cases k; decide
  · cases h
  · cases h; exact ⟨by decide, fun _ => by decide⟩

theorem moving_slots : ∀ i : Fin 4, i ≠ 0 → moving.rows.slots[i] = none := by decide

theorem moving_slot (i : Fin 4) (x : Slot) (h : moving.rows.slots[i] = some x) : i = 0 := by
  by_contra k
  rw [moving_slots i k] at h
  cases h

theorem witness_StepKeepsTheRowStore : moving.RowsInForm ∧ moving.PinnedIsClosed := by
  refine ⟨⟨fun h => ?_, ?_, ?_⟩, ?_, ?_, ?_⟩
  · cases h
  · intro i x h
    obtain rfl := moving_slot i x h
    cases h
    decide
  · intro i j x y hij h k
    exact absurd ((moving_slot i x h).trans (moving_slot j y k).symm) hij
  · intro i h; cases h
  · intro a h k; cases h; cases k
  · intro _ a h; cases h; decide

/-- A COVER course of row 1 with its page bound, and a CLAIM of needle 15 waiting. -/
def claimed : State :=
  ((courseOf { order0 with role := .cover }).setClaim
    { page0 := some (freshPage 1 16), page1 := none, run := none }).setPending
    [.claim 2 { pass := 7, row := 1, first := 15, count := 2, result := 1 }]

theorem witness_StepKeepsTheClaimPagesInForm :
    claimed.PagesInForm ∧ ∃ t, step claimed = .next t ∧ t.count .claimsApplied = 1 := by
  refine ⟨⟨fun h => ?_, fun p h => ?_, fun p h => ?_, fun p q _ k => ?_⟩, _, rfl, by decide⟩
  · cases h
  · cases h; exact ⟨by decide, by decide⟩
  · cases h
  · cases k

/-- A fire in flight and a request behind it, with the confirm waiting. -/
def firing : State :=
  (course.setHead { course.head with
    height := none, code := .high, fire := some ⟨.high, some 3, 20⟩,
    waiting := some ⟨4, .low, .right⟩ }).setPending [.headConfirm]

theorem witness_StepKeepsTheHeadAgreeing :
    firing.HeadAgrees ∧ ∃ t, step firing = .next t ∧ t.head.fire ≠ none := by
  refine ⟨⟨?_, ?_, ?_⟩, _, rfl, ?_⟩ <;> decide

/-- An engagement of the running course in flight, with its confirm waiting. -/
def engaging : State :=
  (withCarrier (withPin (parked course none) (.engaging 3 7 20 true)) waiting).setPending [.pinConfirm]

theorem engaging_places :
    ∀ c : Fin 16, (engaging.carrier c).place = .parked 5 ∨ (engaging.carrier c).place = .unknown := by
  decide

theorem witness_StepKeepsTheCarrierUnit :
    engaging.PinAgrees ∧ engaging.ParksOnRail ∧
    ∃ t, step engaging = .next t ∧ t.carr.pin.carrierOn = some 3 := by
  refine ⟨⟨fun h => ?_, fun h => ?_, fun c p d h => ?_⟩, ⟨by decide, fun c x h => ?_⟩, _, rfl, by decide⟩
  · cases h
  · cases h
  · cases h; exact ⟨waiting, rfl, rfl, rfl, rfl, .inl rfl⟩
  · rcases engaging_places c with k | k <;> rw [k] at h <;> cases h
    decide

/-! ### Witnesses: position and arrival -/

theorem witness_TruncatedQuotientCells :
    (-(8 : Int) < 7 ∧ (7 : Int) < 8 ∧ roundDiv .trunc 7 8 = 0 ∧ roundDiv .trunc (-7) 8 = 0) ∧
    ((1 * 8 : Int) ≤ 8 ∧ roundDiv .trunc 8 8 = 1 ∧ roundDiv .trunc 15 8 = 1 ∧
      roundDiv .trunc 16 8 = 2) ∧
    (roundDiv .trunc (-8) 8 = -1 ∧ roundDiv .trunc (-15) 8 = -1 ∧ roundDiv .trunc (-16) 8 = -2) := by
  decide

theorem witness_NearestQuotientHalvesToEven :
    (2 * ((11 : Int) - 1 * 8).natAbs < 8 ∧ roundDiv .nearest 11 8 = 1) ∧
    (2 * ((20 : Int) - 2 * 8).natAbs = 8 ∧ roundDiv .nearest 20 8 = 2) ∧
    (2 * ((12 : Int) - 2 * 8).natAbs = 8 ∧ roundDiv .nearest 12 8 = 2) := by decide

/-- A setup record, and each kind of tracker; a forming with the pin index as before and with another; and
the edges of the bed. -/
theorem witness_NeedlesArriveAsTheIndicesPassThem :
    ready.setup? = some rec0 ∧ ready.pos.tracker = .right 0 ∧
    (ready.setPos { ready.pos with tracker := .left 0 }).pos.tracker = .left 0 ∧
    (ready.setPos { ready.pos with tracker := .unknown 0 0 }).pos.tracker = .unknown 0 0 ∧
    ready.pos.idx = some ⟨0, 0, 0⟩ ∧ ready.indicesNow = some ⟨0, 0, 0⟩ ∧
    (ready.setPos { ready.pos with c := 8 }).indicesNow = some ⟨1, 1, 1⟩ ∧
    arriving .right (-3) 1 16 = [0, 1] ∧ arriving .right 14 20 16 = [15] ∧
    arriving .left 20 14 16 = [15, 14] ∧ arriving .left 1 (-3) 16 = [0] ∧ arriving .right 3 3 16 = [] := by
  decide

/-- No change, a counted edge, an edge at the limit, one outside RUN, and one in a course that brings the
decision index to needle 1, without a turn. -/
theorem witness_LegalEdgeMovesTheCount :
    (let e := quadrature (course.pos.phaseA, course.pos.phaseB)
     e (false, false) = some 0 ∧ e (true, false) = some 1 ∧ e (false, true) = some (-1)) ∧
    (after (.encoderEdge true false) course).pos.c = 1 ∧
    (after (.encoderEdge true false) (ready.setPos { ready.pos with c := 4194303 })).pos.c = 4194303 ∧
    (after (.encoderEdge true false) (ready.setPos { ready.pos with c := 4194302 })).pos.c = 4194303 ∧
    ready.ctl.mode = .ready rec0 ∧ ready.course.active = none ∧ ready.carr.course = none ∧
    (after (.encoderEdge true false) ready).pos.c = 1 ∧
    (let s := course.setPos { course.pos with c := 7 }
     turnAt (7 + 1) s.pos.tracker = none ∧
     (after (.encoderEdge true false) s).pos.frontier = some 1 ∧
     (after (.encoderEdge true false) s).course.tally.decided = 1) := by decide

theorem witness_IllegalEdgeIsFlaggedAndCounted :
    quadrature (ready.pos.phaseA, ready.pos.phaseB) (true, true) = none ∧
    (after (.encoderEdge true true) ready).count .encoderErrors = 1 := by decide

/-- The station with a STANDBY order of this direction and another in the queue. -/
def queued (d : Dir) : State :=
  (turning course).setCourse { course.course with
    standby := some ⟨{ order0 with direction := d }, .primed⟩, queue := [order0], expected := some 3 }

/-- The turn at needle 1, on the bed, with this order in STANDBY, a backing load pending and the order's page
bound. -/
def onBed (o : Order) : State :=
  let s := (queued .left).setPos { course.pos with c := 9, tracker := .right 24 }
  let s := s.setCourse { s.course with
    standby := some ⟨{ o with direction := .left }, .primed⟩, shadow := some [.tuck, .miss] }
  s.setClaim { page0 := some (freshPage 1 16), page1 := none, run := none }

/-- The turn, with STANDBY EMPTY, of the direction of travel and of the other, with a course running and
none; a backing load, a BACKING course and a COVER course; and a frontier on the bed and off it. -/
theorem witness_TurnInRunStartsACourse :
    (quadrature ((turning run).pos.phaseA, (turning run).pos.phaseB) (false, true) = some (-1) ∧
     (turning run).ctl.mode = .run rec0 ∧ turnAt (-15 + -1) (turning run).pos.tracker = some .left ∧
     (turning run).course.active = none ∧ (queued .left).course.active ≠ none) ∧
    (let e := after (.encoderEdge false true)
     (e (turning run)).isRecorded .starve = true ∧ (e (queued .left)).isSticky .passSkew = true ∧
     (e (queued .left)).isRecorded .direction = false ∧ (e (queued .right)).isRecorded .direction = true ∧
     (e (queued .right)).course.queue = [] ∧ (e (queued .left)).pos.frontier = some (-2) ∧
     (e (onBed order0)).pos.frontier = some 1 ∧ (e (onBed order0)).course.tally.decided = 1 ∧
     (e (onBed order0)).course.phase = 0 ∧
     (e (onBed { order0 with role := .backing })).course.phase = 1 ∧
     (e (onBed { order0 with role := .cover })).course.table = [.tuck, .miss]) := by decide

theorem witness_TurnInRunStartsACourse_listen :
    (after (.encoderEdge false true) (onBed { order0 with role := .cover })).claim.page0.map (·.listen) =
      some 6 := by decide

/-- A start with flags and counters left over, STANDBY EMPTY, of the direction and of the other, and a line
DEGRADED and GOOD. -/
theorem witness_TurnInRunStartsACourse_flags :
    (let s (d : Dir) (x : Bool) : State := ((queued d).setLine { (queued d).line with degraded := x }).setTally
       ⟨9, 9, 0, 0, 0, 0, 0⟩
     let g (d : Dir) (x : Bool) : State := ((s d x).setCourseFlag .claimsDropped).activate .left
     (g .left true).isCourseFlag .claimsDropped = false ∧ (g .left true).isCourseFlag .lineDegraded = true ∧
     (g .left false).course.flags = 0 ∧ (g .left false).course.tally.decided = 0 ∧
     (g .right false).isCourseFlag .direction = true ∧ (g .right false).ctl.latch = true ∧
     (let e := (turning run).activate .left
      e.isCourseFlag .starve = true ∧ e.ctl.latch = true ∧ e.isCourseFlag .direction = false)) := by decide

/-- The order primed at a course start has its TAKE queued, its standby take QUEUED. -/
theorem witness_TurnInRunStartsACourse_take :
    (let s := (queued .left).setCourse
       { (queued .left).course with queue := [{ order0 with carrier := some 3 }] }
     let t := after (.encoderEdge false true) s
     t.course.standby.map (·.order.carrier) = some (some 3) ∧
     t.carr.standbyTake = some ⟨3, 7, .queued⟩ ∧ Notice.take 7 3 ∈ t.line.list) := by decide

/-- The mark ignored, the first load, a load without slip and one with slip, and one in a course. -/
theorem witness_ReferenceMarkLoadsKref :
    State.reset.ctl.mode = .setup ∧
    (ready.setPos { ready.pos with tracker := .left 0 }).pos.tracker = .left 0 ∧
    ready.pos.tracker = .right 0 ∧ ready.setup? = some rec0 ∧ ready.pos.referenced = false ∧
    (let s := run.setPos { run.pos with referenced := true }
     (after .referenceMark s).isSticky .slip = false ∧
     (after .referenceMark (s.setPos { s.pos with c := -1 })).isSticky .slip = true ∧
     s.course.active = none ∧ s.carr.course = none) ∧
    (let s := course.setCtl { course.ctl with mode := .run { rec0 with kref := 8 } }
     (after .referenceMark s).pos.frontier = some 1 ∧
     (after .referenceMark s).course.tally.decided = 1) := by decide

/-! ### Witnesses: rows -/

theorem witness_PaintedRangeTakesTheColour :
    canonical 128 list4 = true ∧ paintCount 127 127 15 list4 = 6 ∧
    colourAt 127 (paint 127 127 15 list4) = 15 ∧ paint 0 127 0 list4 = [] := by decide

/-- A SPAN of needles for row 1. -/
def spanOf (mask : Flags16) (first length : Word16) : Instr :=
  .span { row := 1, mask := mask, first := first, length := length, colour := 2 }

/-- The own number and 31, and another; a SPAN, a CLOSE, an ORDER and a BACKING for another station, and in
SETUP. -/
theorem witness_PatternNoticesPassTheFilter :
    ready.hears = true ∧ hearing.hears = true ∧ hearing.ctl.mode = .setup ∧
    ready.inMask 0xFFFE = false ∧ ready.addressed 1 = false ∧ ready.addressed 16 = false ∧
    ready.addressed 0 = true ∧ hearing.inMask 1 = true ∧ hearing.addressed 31 = true ∧
    (after (spanOf 1 0 1) hearing).count .earlyNotices = 1 ∧
    (after (.close { row := 1, mask := 1, count := 0 }) hearing).count .earlyNotices = 1 ∧
    (after (.backing 31 { length := 1, entries := 0 }) hearing).count .earlyNotices = 1 := by decide

/-- A FILLING slot of row 1 with this list and count. -/
def filling (l : List Span) (n : Nat) : State :=
  ready.setRows (rows0.put 0 (some { state := .filling, row := 1, seq := 1, count := n, spans := l }))

/-- A SPAN ignored at the end of the bed, one taken at it, one of length 0, and a late one. -/
theorem witness_SpanIsTakenIntoItsSlot :
    (filling [] 0).hears = true ∧ (filling [] 0).rows.find 1 = some 0 ∧ (filling [] 0).inMask 1 = true ∧
    (after (spanOf 1 16 1) (filling [] 0)).count .spansIgnored = 1 ∧
    (after (spanOf 1 15 0) (filling [] 0)).count .spansIgnored = 1 ∧
    (after (spanOf 1 15 65535) (filling [] 65535)).rows.slots[0] =
      some { state := .filling, row := 1, seq := 1, count := 65535, spans := [⟨15, 15, 2⟩] } ∧
    (ready.setRows rows0).rows.find 1 = some 0 ∧
    (after (spanOf 1 0 1) (ready.setRows rows0)).count .lateSpans = 1 := by decide

/-- A list of 384 spans of one needle, every second needle. -/
def full : List Span := (List.range 384).map fun k => ⟨2 * k, 2 * k, 1⟩

set_option maxRecDepth 16000 in
/-- One coloured span too many for the list. -/
theorem witness_SpanIsTakenIntoItsSlot_full : paintCount 1000 1000 2 full = 385 := by decide

/-- Four held slots of rows 1 to 4, slot 1 the oldest. -/
def held : State :=
  ready.setRows { slots := #v[some ⟨.closed, 1, 2, 0, []⟩, some ⟨.closed, 2, 1, 0, []⟩,
    some ⟨.filling, 3, 3, 0, []⟩, some ⟨.damaged, 4, 4, 0, []⟩], pinned := none }

/-- A SPAN for row 5. -/
def span5 : Instr := .span { row := 5, mask := 1, first := 0, length := 1, colour := 1 }

/-- The orders of the four rows held. -/
def allInUse : State :=
  held.setCourse { held.course with queue := [order0, { order0 with row := 2 }, { order0 with row := 3 },
    { order0 with row := 4 }] }

/-- Contexts that wait: STANDBY for row 1 and for row 2, ACTIVE before its row choice and after. -/
theorem witness_RowReady :
    (let s := (filling [] 1).setCourse { run.course with
       standby := some ⟨order0, .waiting⟩, active := some ⟨order0, .waiting, .right, false⟩ }
     let t := s.rowReady 1
     t.course.standby = some ⟨order0, .primed⟩ ∧ t.course.active = some ⟨order0, .primed, .right, false⟩ ∧
     (s.rowReady 2).course = s.course ∧
     ((s.setCourse { s.course with choice := some .nothing }).rowReady 1).course.active = s.course.active) := by
  decide

/-- A FREE slot taken, the oldest slot evicted, and a refusal when every slot is in use. -/
theorem witness_SpanWithoutASlotTakesOne :
    held.hears = true ∧ allInUse.hears = true ∧ (ready.setRows rows0).hears = true ∧
    (ready.setRows rows0).rows.find 5 = none ∧ (ready.setRows rows0).rows.slots[1] = none ∧
    ((after span5 (ready.setRows rows0)).rows.slots[1]).map (·.seq) = some 2 ∧
    held.rows.find 5 = none ∧ (∀ i : Fin 4, held.rows.slots[i] ≠ none) ∧
    slotInUse held.course held.rows 1 true = false ∧
    ((after span5 held).rows.slots[1]).map (·.row) = some 5 ∧
    (∀ i : Fin 4, slotInUse allInUse.course allInUse.rows i true = true) ∧
    (after span5 allInUse).count .rowRefusals = 1 := by decide

/-- The FILLING row with an order in STANDBY that waits for it. -/
def awaited : State :=
  (filling [] 1).setCourse { ready.course with standby := some ⟨order0, .waiting⟩ }

/-- A slot named by the queue, by STANDBY and by the ACTIVE order; one that nothing names; and the idle context
of a starved course, which names none. -/
theorem witness_InUse :
    InUse allInUse 1 true ∧ InUse awaited 0 false ∧ InUse course 0 true ∧ ¬ InUse course 0 false ∧
    ¬ InUse held 1 true ∧
    ¬ InUse (course.setCourse { course.course with
      active := some ⟨order0, .primed, .right, true⟩ }) 0 true := by
  refine ⟨⟨_, rfl, .inl ⟨_, .tail _ (.head _), rfl⟩⟩, ⟨_, rfl, .inr (.inl ⟨_, rfl, rfl⟩)⟩,
    ⟨_, rfl, .inr (.inr ⟨rfl, _, rfl, rfl, rfl⟩)⟩, ?_, ?_, ?_⟩ <;> rintro ⟨x, -, h⟩ <;>
    rcases h with ⟨o, h, -⟩ | ⟨b, h, -⟩ | ⟨r, a, h, k, -⟩ <;>
    first | (cases h; done) | (cases r; done) | (cases h; cases k)

theorem witness_CloseSettlesAFillingRow :
    awaited.hears = true ∧ (ready.setRows rows0).rows.stateOf 1 = some .closed ∧
    ready.rows.stateOf 1 = none ∧
    awaited.rows.find 1 = some 0 ∧
    (after (.close { row := 1, mask := 1, count := 1 }) awaited).rows.stateOf 1 = some .closed ∧
    (after (.close { row := 1, mask := 1, count := 1 }) awaited).course.standby =
      some ⟨order0, .primed⟩ ∧
    (after (.close { row := 1, mask := 1, count := 0 }) awaited).rows.stateOf 1 = some .damaged := by
  decide

/-! ### Witnesses: orders and courses -/

/-- An ORDER body that decodes to a PATTERN order with a SELF carrier. -/
def orderBody : OrderBody where
  pass := 7
  row := 1
  courseType := 0
  direction := 0
  role := 1
  selected := 2
  unselected := 0
  colours := 2
  listen := 6
  carrier := 3
  source := 0x80
  announce := false
  floatTie := false
  step := 1
  winFirst := 0
  winLast := 4000
  racking := 24

/-- The last refusal reason after an ORDER. -/
def refusal (b : OrderBody) (s : State) : Option RefusalReason := (after (.order 0 b) s).course.lastRefusal

/-- A station with a full queue. -/
def fullQueue : State := ready.setCourse { ready.course with queue := List.replicate 8 order0 }

/-- Both pages bound to other rows. -/
def noPage : State :=
  ready.setClaim { page0 := some (freshPage 8 16), page1 := some (freshPage 9 16), run := none }

/-- Each refusal of the table, and an order accepted. -/
theorem witness_OrderIsReadAndJudgedByTheTable :
    refusal { orderBody with role := 4 } ready = some .undefinedCode ∧
    refusal orderBody fullQueue = some .queueFull ∧
    refusal { orderBody with racking := 25 } ready = some .rackingRange ∧
    refusal { orderBody with racking := BitVec.ofInt 8 (-25) } ready = some .rackingRange ∧
    refusal { orderBody with role := 2, courseType := 1 } ready = some .roleNotAllowed ∧
    refusal { orderBody with selected := 4 } ready = some .actionNotAllowed ∧
    refusal orderBody (ready.setCtl { ready.ctl with owner := false }) = some .noCarrierPin ∧
    refusal { orderBody with role := 2 } noPage = some .noClaimPage ∧
    refusal orderBody ready = none ∧
    ((after (.order 0 orderBody) ready).course.standby).map (·.order.winLast) = some 15 := by decide

/-- An accepted order enters the EMPTY STANDBY with its standby take; one behind a STANDBY order makes none. -/
theorem witness_OrderIsReadAndJudgedByTheTable_take :
    (let t := after (.order 0 orderBody) ready
     t.carr.standbyTake = some ⟨3, 7, .queued⟩ ∧ t.line.list = [.take 7 3] ∧
     (after (.order 0 orderBody) awaited).carr.standbyTake = none ∧
     (after (.order 0 orderBody) awaited).course.queue.length = 1) := by decide

/-- A COVER order that binds page 1 beside the page of row 1, and one whose row is bound already. -/
theorem witness_OrderIsReadAndJudgedByTheTable_page :
    (let s := { ready with claim := { ready.claim with page0 := some (freshPage 1 16) } }
     let b := { orderBody with role := 2, row := 9 }
     let t := after (.order 0 b) s
     refusal b s = none ∧ t.claim.page0 = some (freshPage 1 16) ∧ t.claim.page1 = t.claim.pageOf 9 ∧
     (t.claim.page1.map fun p => (p.row, p.doubles, p.lateDoubles, p.listen, p.entries.length)) =
       some (9, 0, 0, 0, 16) ∧
     (t.claim.page1.map fun p => p.entries.all (· == ⟨0, 0, .none⟩)) = some true ∧
     (after (.order 0 { b with row := 1 }) s).claim = s.claim) := by decide

/-- Lengths 1, 32, 0 and 33, and a course start with and without a pending load. -/
theorem witness_BackingIsTakenAndAppliedAtTheNextStart :
    ((after (.backing 0 { length := 1, entries := 0 }) ready).course.shadow).map (·.length) = some 1 ∧
    ((after (.backing 31 { length := 32, entries := 0 }) ready).course.shadow).map (·.length) = some 32 ∧
    (after (.backing 0 { length := 0, entries := 0 }) ready).isSticky .backingRefused = true ∧
    (after (.backing 0 { length := 33, entries := 0 }) ready).isSticky .backingRefused = true ∧
    ready.course.shadow = none ∧
    (ready.setCourse { ready.course with shadow := some [.tuck] }).course.shadow = some [.tuck] := by
  decide

/-- A course of row 1 in this slot state, with this status. -/
def choosing (x : Option SlotState) (st : RowStatus) : State × Active :=
  let a : Active := ⟨order0, st, .right, false⟩
  ((run.setRows (rows0.put 0 (x.map fun y => ⟨y, 1, 1, 0, []⟩))).setCourse
    { run.course with active := some a }, a)

theorem witness_RowChoiceFollowsTheTable :
    (let x := choosing (some .closed) .primed
     x.1.rows.stateOf 1 = some .closed ∧ (x.1.chooseRow x.2).course.choice = some .own) ∧
    (let x := choosing (some .damaged) .primed
     x.1.rows.stateOf 1 = some .damaged ∧ (x.1.chooseRow x.2).course.choice = some .nothing ∧
     (x.1.chooseRow x.2).isRecorded .rowDamaged = true ∧ (x.1.chooseRow x.2).ctl.latch = true) ∧
    (let x := choosing (some .filling) .waiting
     x.1.rows.stateOf 1 = some .filling ∧ (x.1.chooseRow x.2).isCourseFlag .rowLate = true ∧
     (x.1.chooseRow x.2).isRecorded .rowLate = true ∧ (x.1.chooseRow x.2).ctl.latch = true) ∧
    (let x := choosing none .waiting
     x.1.rows.stateOf 1 = none ∧ (x.1.chooseRow x.2).isCourseFlag .rowLate = true) := by decide

/-- A course cut short with a failed needle, one complete, an IDLE one, and a COVER one with its page. -/
theorem witness_CourseEndReportsTheCourse :
    course.course.active = some ⟨order0, .primed, .right, false⟩ ∧ course.setup? = some rec0 ∧
    (let s := course.setTally { course.course.tally with decided := 15, failed := 15 }
     (s.endCourse ⟨order0, .primed, .right, false⟩).isRecorded .unclean = true) ∧
    (let s := course.setTally { course.course.tally with decided := 16, loops := 16 }
     (s.endCourse ⟨order0, .primed, .right, false⟩).isRecorded .unclean = false ∧
     s.course.tally.decided = order0.winLast + 1 - order0.winFirst) ∧
    (courseOf { order0 with role := .idle }).course.active =
      some ⟨{ order0 with role := .idle }, .primed, .right, false⟩ ∧
    claimed.claim.pageOf 1 = some (freshPage 1 16) := by decide

/-- An UNRESOLVED counting entry, an UNRESOLVED one that does not count, and a FINAL one behind them. -/
theorem witness_CourseEndReportsTheCourse_ended :
    (let s := course.setDec { course.dec with outcomes :=
       [⟨3, true, .knit, none, false⟩, ⟨4, false, .miss, none, false⟩, ⟨5, true, .miss, some .done, false⟩] }
     let t := s.endCourse ⟨order0, .primed, .right, false⟩
     t.course.tally.failed = 1 ∧ t.course.tally.nones = 1 ∧ t.count .needlesEnded = 1 ∧
     s.count .needlesEnded ≤ 65535) := by decide

/-- The REPORT as the 16th notice, after those that wait, and one that finds the list full. -/
theorem witness_CourseEndReportsTheCourse_list :
    (let a : Active := ⟨order0, .primed, .right, false⟩
     let s (k : Nat) : State := (withList course (List.replicate k (.status 0 0 []))).endCourse a
     order0.announce = false ∧ course.claim.run = none ∧ ((s 15).line.list.getLast?).map classOf = some 3 ∧
     (s 15).line.list.length = 16 ∧ (s 15).line.list ≠ List.replicate 16 (.status 0 0 []) ∧
     (s 15).count .reportDrops = 0 ∧ (s 16).line.list.length = 16 ∧ (s 16).count .reportDrops = 1) := by
  decide

/-- The pin ENGAGED, ENGAGING and RELEASED, and a carrier still waited for; a row read clean, which is pinned,
one that was not, which is freed, and a slot nobody names; and the page of a row no order covers. -/
theorem witness_CourseEndReportsTheCourse_units :
    (let a : Active := ⟨order0, .primed, .right, false⟩
     ((withPin course (.engaged 3 7)).endCourse a).carr.pin = .releasing 3 7 20 false ∧
     (engaging.endCourse a).carr.pin = .engaging 3 7 20 false ∧ course.carr.pin = .released ∧
     ((withCarrier course waiting).endCourse a).isRecorded .carrierMissed = true ∧
     (course.endCourse a).rows.pinned = some 0 ∧ (course.endCourse a).rows.stateOf 1 = some .closed ∧
     ((choosing (some .damaged) .primed).1.endCourse a).rows.stateOf 1 = none ∧
     slotInUse course.course course.rows 1 true = false ∧ course.rows.pinned = none ∧
     (claimed.endCourse ⟨{ order0 with role := .cover }, .primed, .right, false⟩).claim.page0 = none) := by
  decide

/-- A fire in flight at a course end goes on without its needle. -/
theorem witness_CourseEndReportsTheCourse_fire :
    (firing.endCourse ⟨order0, .primed, .right, false⟩).head.fire = some ⟨.high, none, 20⟩ := by decide

/-- The page of a row that a queued order covers stays. -/
theorem witness_CourseEndReportsTheCourse_page :
    (let s := claimed.setCourse { claimed.course with queue := [{ order0 with role := .cover }] }
     CoversRow s 1 ∧
     (s.endCourse ⟨{ order0 with role := .cover }, .primed, .right, false⟩).claim.page0 =
       some (freshPage 1 16)) := ⟨.inl ⟨_, List.mem_singleton_self _, rfl, rfl⟩, by decide⟩

/-! ### Witnesses: decisions, claims -/

/-- The ACTIVE context of an order. -/
def activeOf (o : Order) : Active := ⟨o, .primed, .right, false⟩

/-- A COVER course whose page has heard and looped these stations for needle 9. -/
def covering (h l : Flags16) : State :=
  claimed.setClaim (claimed.claim.changePage 1 fun p => { p with entries := p.entries.set 9 ⟨h, l, .none⟩ })

/-- Each role; and for COVER a colour in the set, a listened loop, all heard, and unheard under FILL. -/
theorem witness_RoleChoosesTheAction :
    (let a := activeOf { order0 with role := .cover }
     claimed.colour a 3 = 1 ∧ claimed.roleAction a 3 = .knit ∧
     (covering 6 4).roleAction a 9 = .miss ∧ (covering 6 0).roleAction a 9 = .knit ∧
     (covering 2 0).roleAction a 9 = .knit ∧ claimed.setup? = some rec0) ∧
    course.roleAction (activeOf { order0 with role := .idle }) 3 = .miss ∧
    course.roleAction (activeOf order0) 3 = .knit ∧ course.roleAction (activeOf order0) 4 = .miss ∧
    course.roleAction (activeOf { order0 with role := .backing }) 3 = .miss ∧
    0 < course.course.table.length := by decide

/-- The colour of a needle in a span and beyond it, from the own row, from no slot of the row, from the pinned
slot, from none pinned, and from nothing. -/
theorem witness_RoleChoosesTheAction_colour :
    (let c (x : Option RowChoice) (row : Word16) (pin : Option (Fin 4)) (n : Nat) : Nat :=
       let s := course.setRows { course.rows with pinned := pin }
       (s.setCourse { s.course with choice := x }).colour (activeOf { order0 with row := row }) n
     c (some .own) 1 none 3 = 1 ∧ c (some .own) 1 none 4 = 0 ∧ c (some .own) 9 (some 0) 3 = 0 ∧
     c (some .pinned) 9 (some 0) 3 = 1 ∧ c (some .pinned) 1 none 3 = 0 ∧
     c (some .nothing) 1 (some 0) 3 = 0 ∧ c none 1 (some 0) 3 = 0) ∧
    canonical 16 [⟨0, 3, 1⟩] = true := by decide

/-- The entry of a needle in the page of the row, beside the page of another row. -/
theorem witness_RoleChoosesTheAction_entry :
    (let a := activeOf { order0 with role := .cover }
     (covering 6 4).pageEntry a 9 = ⟨6, 4, .none⟩ ∧
     ((covering 6 4).claim.pageOf a.order.row).map (fun p => p.entries[9]?) =
       some (some ⟨6, 4, .none⟩)) := by decide

/-- No tie, the MISS before the limit, the MISS at it, and a KNIT. -/
theorem witness_FloatTieTucksTheLimit :
    course.setup? = some rec0 ∧ 2 ≤ rec0.floatLimit ∧
    (let s := course.setDec { course.dec with float := 1 }
     s.chooseAction (activeOf { order0 with floatTie := false }) 4 = (.miss, 1) ∧
     course.chooseAction (activeOf order0) 4 = (.miss, 1) ∧
     s.chooseAction (activeOf order0) 4 = (.tuck, 0) ∧ s.chooseAction (activeOf order0) 3 = (.knit, 0)) := by
  decide

/-- A float limit of 0: a MISS in a course that asks for the tie. -/
theorem witness_FloatTieTucksTheLimit_off :
    (let s := course.setCtl { course.ctl with mode := .run { rec0 with floatLimit := 0 } }
     s.setup? = some { rec0 with floatLimit := 0 } ∧
     s.chooseAction (activeOf order0) 4 = (.miss, s.dec.float)) := by decide

/-- A guarded needle and a free one, each with the head at the height and not; both window edges. -/
theorem witness_ArrivingNeedleIsDecidedAndDriven :
    (let a := { order0 with carrier := some 3 }
     let s := withCarrier (courseOf a) waiting
     s.course.active = some (activeOf a) ∧ s.course.choice ≠ none ∧ s.dec.outcomes = [] ∧
     s.head.disabled = false ∧ s.head.railGood = true ∧ s.head.fire = none ∧
     s.head.height = some .low ∧ (s.arrive 0).course.tally.failed = 1 ∧
     (let t := s.setHead { s.head with height := some .high }
      (t.arrive 15).headDrive = true)) ∧
    (course.head.height = some .low ∧ (course.chooseAction (activeOf order0) 15).1 = .miss ∧
     (course.arrive 15).course.tally.nones = 1 ∧
     (course.chooseAction (activeOf order0) 0).1 = .knit ∧ (course.arrive 0).head.code = .high) := by
  decide

/-- A BACKING course, which makes no row choice, and the first window arrival of a PATTERN course; needles on
both sides of a window and one of an IDLE course; and COVER marks: KNIT, guarded, and at a disabled head. -/
theorem witness_ArrivingNeedleIsDecidedAndDriven_roles :
    (let b := { order0 with role := .backing }
     let s := (courseOf b).setCourse { (courseOf b).course with choice := none }
     s.course.active = some (activeOf b) ∧ (s.arrive 0).course.choice = none ∧
     (s.arrive 0).course.tally.decided = 1) ∧
    (let s := course.setCourse { course.course with choice := none }
     (s.arrive 0).course.choice = some .own ∧ (s.arrive 0).course.tally.decided = 1) ∧
    (let o := { order0 with winFirst := 2, winLast := 3 }
     let s := withHead (courseOf o) fun h => { h with height := some .mid }
     s.course.active = some (activeOf o) ∧ (s.arrive 1).head.code = .low ∧
     (s.arrive 4).course.tally.decided = 0 ∧ (courseOf o).head.height = some .low) ∧
    (courseOf { order0 with role := .idle }).course.choice = some .own ∧
    (let own (s : State) : Option OwnMark := ((s.arrive 3).claim.pageOf 1).map fun p => (p.entry 3).own
     own claimed = some .loop ∧ own (withHead claimed fun h => { h with disabled := true }) = some .other ∧
     own (withCarrier (claimed.setCourse { claimed.course with
       active := some (activeOf { order0 with role := .cover, carrier := some 3 }) }) waiting) =
       some .other) := by decide

/-- A counting arrival in an announcing course, behind an entry, behind a fire, with the rail LOW, and with the
head DISABLED. -/
theorem witness_ArrivingNeedleIsDecidedAndDriven_whole :
    ((courseOf { order0 with announce := true }).arrive 5).claim.run = some ⟨5, 5, 1, .none⟩ ∧
    (let e : Entry := ⟨1, true, .knit, none, false⟩
     (((course.setDec { course.dec with outcomes := [e] }).arrive 5).dec.outcomes.map (·.needle)) = [1, 5]) ∧
    (firing.arrive 5).head.waiting = some ⟨5, .low, .right⟩ ∧
    ((withHead course fun h => { h with railGood := false }).arrive 0).count .needlesRefusedForRail = 1 ∧
    ((withHead course fun h => { h with disabled := true }).arrive 0).count .needlesRefusedByHead = 1 := by
  decide

/-- Nothing tracked, a list of eight: a KNIT at a DISABLED head is OWN-OTHER (log 36), one at a head that works
OWN-LOOP. -/
theorem witness_ArrivingNeedleIsDecidedAndDriven_untracked :
    (let e : Entry := ⟨1, true, .knit, none, false⟩
     let s := claimed.setDec { claimed.dec with outcomes := List.replicate 8 e }
     let own (s : State) : Option OwnMark := ((s.arrive 3).claim.pageOf 1).map fun p => (p.entry 3).own
     own (withHead s fun h => { h with disabled := true }) = some .other ∧ own s = some .loop) := by decide

/-- Seven and eight entries, counting and not. -/
theorem witness_ArrivalEntersTheOutcomeList :
    (let e : Entry := ⟨1, true, .knit, none, false⟩
     let s := course.setDec { course.dec with outcomes := List.replicate 7 e }
     let t := course.setDec { course.dec with outcomes := List.replicate 8 e }
     (s.enter 9 true .miss true).dec.outcomes.length = 8 ∧ (t.enter 9 false .miss false).dec = t.dec ∧
     (t.enter 9 true .knit false).course.tally.untracked = 1) := by decide

/-- Each outcome's counter and each result's course counter, and an entry that does not count. -/
theorem witness_FinalEntriesLeaveInOrder :
    (let left (x : Action) (o : NeedleOutcome) : State := course.account ⟨3, true, x, some o, false⟩ o
     (left .miss .done).course.tally.nones = 1 ∧ (left .tuck .done).course.tally.tucks = 1 ∧
     (left .knit .done).course.tally.loops = 1 ∧ (left .xfer .done).course.tally.tops = 1 ∧
     (left .recv .done).course.tally.tops = 1 ∧ (left .knit .lost).course.tally.failed = 1 ∧
     (left .knit .done).counts = course.counts ∧
     (left .knit .guarded).count .needlesGuarded = 1 ∧
     (left .knit .disabled).count .needlesRefusedByHead = 1 ∧
     (left .knit .rail).count .needlesRefusedForRail = 1 ∧ (left .knit .lost).count .needlesLost = 1 ∧
     (left .knit .fault).count .needlesFaulted = 1 ∧ (left .knit .ended).count .needlesEnded = 1 ∧
     course.account ⟨3, false, .miss, some .lost, false⟩ .lost = course) := by decide

/-- A course that announces: a result joins the open run, a break-after mark closes it, and a FINAL head
leaves while the UNRESOLVED one behind it stays. -/
theorem witness_FinalEntriesLeaveInOrder_run :
    (let s := courseOf { order0 with announce := true }
     let e : Entry := ⟨3, true, .knit, some .done, false⟩
     (s.account e .done).claim.run = some ⟨3, 3, 1, .loop⟩ ∧
     (s.account { e with breakAfter := true } .done).claim.run = none ∧
     (s.account { e with breakAfter := true } .done).line.list = [.claim 7 1 3 1 .loop] ∧
     (let l := s.setDec { s.dec with outcomes := [{ e with outcome := none }, ⟨4, true, .miss, none, false⟩] }
      (l.answer 3 .done).dec.outcomes = [⟨4, true, .miss, none, false⟩] ∧
      (l.answer 4 .done).dec.outcomes.length = 2)) := by decide

/-- A peer's CLAIM without a page, out of range at each end, and applied at the end of the bed. -/
theorem witness_ClaimUpdatesThePageOfItsRow :
    claimed.hears = true ∧ (2 : StationNo) ≠ claimed.ctl.station ∧ ready.claim.pageOf 1 = none ∧
    claimed.claim.pageOf 1 = some (freshPage 1 16) ∧
    (let c (f : Word16) (n r : Byte) : State := after (.claim 2 ⟨7, 1, f, n, r⟩) claimed
     (c 16 1 1).count .claimsOutOfRange = 1 ∧ (c 0 0 1).count .claimsOutOfRange = 1 ∧
     (c 0 1 5).count .claimsOutOfRange = 1 ∧ (c 15 255 4).count .claimsApplied = 1 ∧
     ((c 15 255 1).claim.pageOf 1).map (·.entry 15) = some ⟨4, 4, .none⟩) ∧
    ((after (.claim 2 ⟨7, 1, 9, 1, 1⟩) (covering 8 8)).claim.pageOf 1).map (·.doubles) = some 1 ∧
    (let p : Page := { freshPage 1 16 with entries := [⟨2, 2, .loop⟩, ⟨0, 0, .loop⟩], listen := 4 }
     0 + 2 ≤ p.entries.length ∧ p.listen.getLsbD 2 = true ∧ p.listen.getLsbD 3 = false ∧
     (p.apply 2 0 2 true).doubles = 1 ∧ (p.apply 2 0 2 true).lateDoubles = 2 ∧
     (p.apply 3 0 2 true).lateDoubles = 0) := by decide

/-- A CLAIM for row 1 beside a page of row 2. -/
theorem witness_ClaimUpdatesThePageOfItsRow_other :
    (let s := { claimed with claim := { claimed.claim with
       page0 := some (freshPage 2 16), page1 := some (freshPage 1 16) } }
     let t := after (.claim 2 ⟨7, 1, 3, 1, 1⟩) s
     t.claim.page0 = s.claim.page0 ∧ t.claim.page1 ≠ s.claim.page1) := by decide

/-- A run that goes on, one at the run limit, one at the far edge, and one that a differing result closes,
with room in the list and without. -/
theorem witness_ResultExtendsTheOpenRun :
    course.setup? = some rec0 ∧ course.course.active = some (activeOf order0) ∧
    (let s := course.handRun (activeOf order0) 3 .loop
     let full := withList s (List.replicate 16 (.pick 0 0))
     s.claim.run = some ⟨3, 3, 1, .loop⟩ ∧ (s.handRun (activeOf order0) 4 .loop).claim.run = none ∧
     (s.handRun (activeOf order0) 4 .none).claim.run = some ⟨4, 4, 1, .none⟩ ∧
     (s.handRun (activeOf order0) 4 .none).line.list = [.claim 7 1 3 1 .loop] ∧
     (full.handRun (activeOf order0) 4 .none).isCourseFlag .claimsDropped = true ∧
     full.closeRun.count .claimDrops = 1 ∧
     (course.handRun (activeOf order0) 15 .loop).claim.run = none) := by decide

/-! ### Witnesses: the head -/

/-- Each line of the table. -/
theorem witness_RequestIsJudgedByTheTable :
    (withHead course fun h => { h with disabled := true }).head.disabled = true ∧
    (withHead course fun h => { h with railGood := false }).head.height = some .low ∧
    (withHead course fun h => { h with railGood := false }).head.height ≠ some .mid ∧
    firing.head.fire ≠ none ∧ firing.head.waiting ≠ none ∧
    (withHead firing fun h => { h with waiting := none }).head.waiting = none ∧
    course.head.height = some .low ∧ (course.request 3 .mid .right).count .firesStarted = 1 ∧
    course.setup? = some rec0 ∧ course.fireTime = 20 := by decide

/-- The firing station with its two needles in the outcome list. -/
def judged : State :=
  firing.setDec { firing.dec with
    outcomes := [⟨3, true, .knit, none, false⟩, ⟨4, true, .miss, none, false⟩] }

/-- The judged station whose second needle has been passed by the selector. -/
def passed : State :=
  (withHead firing fun h => { h with waiting := some ⟨0, .low, .right⟩ }).setDec { firing.dec with
    outcomes := [⟨3, true, .knit, none, false⟩, ⟨0, true, .miss, none, false⟩] }

/-- A stray confirm; a fire with a needle and without, none waiting; and each answer of a request that
waits. -/
theorem witness_HeadConfirmEndsTheFire :
    course.head.fire = none ∧ (after .headConfirm course).count .strayConfirms = 1 ∧
    (withHead firing fun h => { h with waiting := none }).head.fire = some ⟨.high, some 3, 20⟩ ∧
    (withHead firing fun h => { h with waiting := none, fire := some ⟨.high, none, 20⟩ }).head.waiting =
      none ∧
    (let c (f : Head → Head) : State := after .headConfirm (withHead judged f)
     judged.passedSelector .right 4 = false ∧ passed.passedSelector .right 0 = true ∧
     (c id).head.fire = some ⟨.low, some 4, 20⟩ ∧ (c id).course.tally.loops = 1 ∧
     (c id).dec.outcomes = [⟨4, true, .miss, none, false⟩] ∧
     (after .headConfirm passed).head.fire = none ∧ (after .headConfirm passed).count .needlesLost = 1 ∧
     (c fun h => { h with disabled := true }).count .needlesRefusedByHead = 1 ∧
     (c fun h => { h with waiting := some ⟨4, .high, .right⟩ }).course.tally.nones = 1 ∧
     (c fun h => { h with railGood := false }).count .needlesRefusedForRail = 1) := by decide

/-- The selector index short of a needle, on it and beyond it, in both directions. -/
theorem witness_HeadConfirmEndsTheFire_passed :
    (let at_ (x : Int) : State := course.setPos { course.pos with idx := some ⟨0, x, 0⟩ }
     (at_ 3).passedSelector .right 4 = false ∧ (at_ 4).passedSelector .right 4 = true ∧
     (at_ 5).passedSelector .right 4 = true ∧ (at_ 5).passedSelector .left 4 = false ∧
     (at_ 4).passedSelector .left 4 = true ∧ (at_ 3).passedSelector .left 4 = true) := by decide

/-- The fault that reaches the limit of 1, where the request that waits is DISABLED, and one before a limit
of 2: a request served, passed, and refused for the rail. -/
theorem witness_FireDeadlineCountsAFault :
    course.head.fire = none ∧ firing.head.fire = some ⟨.high, some 3, 20⟩ ∧
    (after .fireDeadline judged).head.disabled = true ∧
    (after .fireDeadline judged).count .needlesRefusedByHead = 1 ∧
    (let two (s : State) : State := s.setCtl { s.ctl with mode := .run { rec0 with faultLimit := 2 } }
     let d (f : Head → Head) : State := after .fireDeadline (withHead (two judged) f)
     (d id).head.disabled = false ∧ (d id).head.fire = some ⟨.low, some 4, 20⟩ ∧
     (d id).count .needlesFaulted = 1 ∧ (d fun h => { h with waiting := none }).head.fire = none ∧
     (after .fireDeadline (two passed)).count .needlesLost = 1 ∧
     (d fun h => { h with railGood := false }).count .needlesRefusedForRail = 1) := by decide

theorem witness_RailFilterSettlesTheRail :
    ready.head.railLevel = ready.head.railGood ∧
    (let s := after (.railInputChange false) ready
     s.head.railLevel = false ∧ s.head.railGood = true ∧
     (after .railFilterExpiry s).count .railDrops = 1) ∧
    (let s := withHead ready fun h => { h with railGood := false, railCause := true }
     s.head.railLevel = true ∧ (after .railFilterExpiry s).head.railCause = false) := by decide

/-! ### Witnesses: yarn carriers -/

/-- Carriers 15 and 16, one on the pin, an unknown position and one beyond the rail. -/
theorem witness_PlaceSetsTheRecord :
    ready.hears = true ∧ (16#8).toNat = 15 + 1 ∧
    (let ignored (c : Instr) : Prop := (after c ready).count .carrierNoticesIgnored = 1
     ignored (.place 16 0) ∧ ignored (.take 2 7 16) ∧ ignored (.pick 2 7 16) ∧ ignored (.park 2 7 16 0)) ∧
    (15#8).toNat = (15 : Fin 16).val ∧ (after (.place 15 0x8000) ready).carrier 15 = ⟨.unknown, none⟩ ∧
    (after (.place 15 300) ready).carrier 15 = ⟨.parked 79, none⟩ ∧
    (after (.place 15 (BitVec.ofInt 16 (-65))) ready).carrier 15 = ⟨.parked (-64), none⟩ ∧
    (withPin ready (.engaged 3 7)).carr.pin.carrierOn = some 3 ∧
    (after (.place 3 0) (withPin ready (.engaged 3 7))).isSticky .placeRefused = true := by decide

/-- A PLACE and a PARK heard while a SELF course carrier waits: short of the needle, where the pin index stands,
beyond it, and an unknown position. -/
theorem witness_PlaceSetsTheRecord_waiting :
    (let s := withCarrier course { waiting with expected := none }
     let held := withCarrier (course.setCarrier 3 ⟨.held 2, none⟩) { waiting with expected := none }
     (after (.place 3 1) s).carr.course = some { waiting with expected := some 1 } ∧
     (after (.place 3 0) s).carr.pin = .engaging 3 7 20 true ∧
     (after (.place 3 0xFFFF) s).isCourseFlag .carrierMissed = true ∧
     (after (.place 3 0x8000) held).isCourseFlag .carrierMissed = true ∧
     (after (.park 2 7 3 1) s).carr.course = some { waiting with expected := some 1 } ∧
     (after (.park 2 7 3 0xFFFF) s).isRecorded .carrierMissed = true) := by decide

/-- A rival, no rival, and an own TAKE that waits, with a course that waits on it and one whose engagement is
in flight. -/
theorem witness_TakeReservesTheCarrier :
    ready.hears = true ∧ (2 : StationNo) ≠ ready.ctl.station ∧
    ((parked ready (some ⟨7, 5⟩)).carrier 3).reserved = some ⟨7, 5⟩ ∧
    (after (.take 2 7 3) (parked ready (some ⟨7, 5⟩))).count .carrierConflicts = 1 ∧
    ((after (.take 2 7 3) (parked ready (some ⟨6, 5⟩))).carrier 3).reserved = some ⟨7, 2⟩ ∧
    Notice.take 7 3 ∉ ready.line.list ∧
    (after (.take 2 7 3) (withList ready [.take 7 3])).line.list = [] ∧
    (let s := withList (withCarrier (parked course none) { waiting with take := some .queued }) [.take 7 3]
     Notice.take 7 3 ∈ s.line.list ∧ s.line.sending = none ∧
     (after (.take 2 7 3) (withList s [.take 7 3, .pick 7 3])).line.list = [.pick 7 3] ∧
     (after (.take 2 7 3) s).isCourseFlag .carrierDenied = true ∧
     (after (.take 2 7 3) s).isRecorded .carrierDenied = true ∧ (after (.take 2 7 3) s).ctl.latch = true ∧
     (after (.take 2 7 3) (withPin s (.engaging 3 7 20 true))).carr.course =
       some { waiting with take := some .denied }) := by decide

/-- A carrier on the pin and one that is not, a partner that waits, and a reservation of the pass. -/
theorem witness_PickAndParkMoveTheCarrier :
    ready.hears = true ∧
    (let s := withCarrier course { waiting with source := .partner 2 }
     s.hears = true ∧ s.carr.pin.carrierOn ≠ some 3 ∧
     (after (.pick 2 7 3) s).carr.course = some { waiting with source := .partner 2, state := .held } ∧
     (after (.pick 4 7 3) s).carr.course = s.carr.course) ∧
    (after (.pick 2 7 3) (withPin ready (.engaged 3 7))).count .carrierConflicts = 1 ∧
    (after (.park 2 7 3 9) (withPin ready (.engaged 3 7))).count .carrierConflicts = 1 ∧
    ready.carr.course = none ∧
    (after (.park 2 7 3 9) (parked ready (some ⟨7, 2⟩))).carrier 3 = ⟨.parked 9, none⟩ ∧
    (after (.park 2 6 3 0x8000) (parked ready (some ⟨7, 2⟩))).carrier 3 = ⟨.unknown, some ⟨7, 2⟩⟩ := by
  decide

/-- The pin index one short of the needle, on it and one beyond, in both directions; and on it with the
place UNKNOWN, HELD by another, the take QUEUED and the pin busy. -/
theorem witness_PinIndexEngagesTheCarrier :
    (let s := withCarrier (parked course none) waiting
     s.carr.course = some waiting ∧ (s.carrier 3).place = .parked 5 ∧ s.carr.pin = .released ∧
     s.ctl.owner = true ∧ (s.judgeMove 3 4).carr.pin = .released ∧
     (s.judgeMove 4 5).carr.pin = .engaging 3 7 20 true ∧
     (s.judgeMove 4 6).isCourseFlag .carrierMissed = true ∧
     (s.judgeMove 4 6).isRecorded .carrierMissed = true ∧ (s.judgeMove 4 6).ctl.latch = true ∧
     (withPin s (.engaged 4 6)).judgeMove 4 5 = withPin s (.engaged 4 6)) ∧
    (let s := withCarrier (parked course none) { waiting with travel := .left }
     (s.judgeMove 6 5).carr.pin = .engaging 3 7 20 true ∧
     (s.judgeMove 6 4).isCourseFlag .carrierMissed = true) ∧
    (let missed (s : State) : Bool := (s.judgeMove 4 5).isCourseFlag .carrierMissed
     missed (withCarrier course waiting) = true ∧
     missed (withCarrier (course.setCarrier 3 ⟨.held 2, none⟩) waiting) = true ∧
     missed (withCarrier (parked course none) { waiting with take := some .queued }) = true) := by decide

/-- The course carrier of an order formed at pin index 0, with this place of carrier 3, this take and this
pin. -/
def formed (p : Place) (x : TakeState) (pin : Pin) : State :=
  let s := withPin (course.setCarrier 3 ⟨p, none⟩) pin
  (s.setCarr { s.carr with standbyTake := some ⟨3, 7, x⟩ }).formCarrier
    (activeOf { order0 with carrier := some 3 })

/-- Each row of the table at a course start; no carrier; and a partner with its carrier and without. -/
theorem witness_PinIndexEngagesTheCarrier_start :
    (let st (p : Place) (x : TakeState) : Option CarrierState :=
       (formed p x .released).carr.course.map (·.state)
     st (.parked 0) .denied = some .denied ∧ st .unknown .made = some .missed ∧
     st (.held 2) .queued = some .waiting ∧ st (.parked (-1)) .made = some .missed ∧
     st (.parked 1) .queued = some .waiting ∧ st (.parked 0) .queued = some .missed ∧
     (formed (.parked 0) .made .released).carr.pin = .engaging 3 7 20 true ∧
     (formed (.parked 0) .made (.releasing 4 6 9 false)).carr.pin = .releasing 4 6 9 false) ∧
    (course.formCarrier (activeOf order0)).carr.course = none ∧
    (let a := activeOf { order0 with carrier := some 3, source := .partner 2 }
     let st (s : State) : Option CarrierState := (s.formCarrier a).carr.course.map (·.state)
     st course = some .waiting ∧ st (course.setCarrier 3 ⟨.held 2, some ⟨7, 2⟩⟩) = some .held) := by decide

/-- A record that becomes PARKED short of the pin index and beyond it, and UNKNOWN with a needle and without;
a take DENIED; and the pin RELEASED with the index short of the needle, on it and beyond it. -/
theorem witness_PinIndexEngagesTheCarrier_judged :
    (let s := withCarrier course { waiting with expected := none }
     let held := withCarrier (course.setCarrier 3 ⟨.held 2, none⟩) { waiting with expected := none }
     s.pos.idx = some ⟨0, 0, 0⟩ ∧ (s.carrier 3).place = .unknown ∧ (held.carrier 3).place = .held 2 ∧
     (s.record 3 (.parked 1) none).carr.course = some { waiting with expected := some 1 } ∧
     (s.record 3 (.parked (-1)) none).isCourseFlag .carrierMissed = true ∧
     (held.record 3 .unknown none).isCourseFlag .carrierMissed = true ∧
     (held.record 3 .unknown none false).isCourseFlag .carrierMissed = false ∧
     (s.record 3 (.parked (-1)) none false).isCourseFlag .carrierMissed = false ∧
     (s.record 3 (.parked 0) none).carr.pin = .engaging 3 7 20 true ∧
     (s.record 4 (.parked 0) none).carr.course = s.carr.course) ∧
    ((withCarrier (parked course none) waiting).record 3 .unknown none).carr.course = some waiting ∧
    ((withCarrier (parked course none) waiting).record 3 (.held 2) none).carr.course = some waiting ∧
    (withCarrier course { waiting with take := some .denied }).judgeTake.isCourseFlag .carrierDenied = true ∧
    (let s (x : Int) : State := withCarrier (parked course none) { waiting with expected := some x }
     (s 1).judgeFree.carr.pin = .released ∧ (s 0).judgeFree.carr.pin = .engaging 3 7 20 true ∧
     (s (-1)).judgeFree = (s (-1)).setCourseCarrier { waiting with expected := some (-1), state := .missed }) :=
  by decide

/-- The pin RELEASED with the index on the needle: the place UNKNOWN, HELD by another station, and the take
QUEUED; and a course start that misses its carrier, which records the cause. -/
theorem witness_PinIndexEngagesTheCarrier_released :
    (let s (p : Place) (x : TakeState) : State :=
       withCarrier (course.setCarrier 3 ⟨p, none⟩) { waiting with take := some x, expected := some 0 }
     let missed (t : State) : Bool := t.carr.course.map (·.state) == some .missed &&
       !t.isCourseFlag .carrierMissed && !t.isRecorded .carrierMissed && !t.ctl.latch
     missed (s .unknown .made).judgeFree = true ∧ missed (s (.held 2) .made).judgeFree = true ∧
     missed (s (.parked 0) .queued).judgeFree = true) ∧
    (formed .unknown .made .released).isRecorded .carrierMissed = true ∧
    (formed (.parked 0) .denied .released).isRecorded .carrierDenied = true := by decide

/-- Each line of the table; 15 and 16 notices in the list. -/
theorem witness_StandbyTakeFollowsTheTable :
    (let o : Order := { order0 with carrier := some 3 }
     let take (s : State) : Option Take := (s.standbyTakeFor o).carr.standbyTake
     order0.carrier = none ∧ o.source = .own ∧ (ready.standbyTakeFor order0).carr.standbyTake = none ∧
     take (parked ready (some ⟨7, 0⟩)) = some ⟨3, 7, .made⟩ ∧
     take (withList ready [.take 7 3]) = some ⟨3, 7, .queued⟩ ∧
     take (parked ready (some ⟨7, 2⟩)) = some ⟨3, 7, .denied⟩ ∧
     take (withList ready (List.replicate 15 (.pick 0 0))) = some ⟨3, 7, .queued⟩ ∧
     take (withList ready (List.replicate 16 (.pick 0 0))) = some ⟨3, 7, .denied⟩) := by decide

/-- A stray confirm in RELEASED and ENGAGED, an engagement of the course and one left over, and a release
that is told and a silent one. -/
theorem witness_PinConfirmEndsTheOperation :
    ready.carr.pin.carrierOn = none ∧ (after .pinConfirm ready).count .strayPinConfirms = 1 ∧
    (after .pinConfirm (withPin ready (.engaged 3 7))).count .strayPinConfirms = 1 ∧
    (after .pinConfirm engaging).carr.pin = .engaged 3 7 ∧
    (after .pinConfirm (withPin ready (.engaging 3 7 20 false))).carr.pin = .releasing 3 7 20 false ∧
    (after .pinConfirm (withPin ready (.releasing 3 7 20 false))).line.list = [.park 7 3 (some 0)] ∧
    (after .pinConfirm (withPin ready (.releasing 3 7 20 true))).line.list = [] ∧
    ready.carr.course = none ∧ ready.line.list.length < 16 := by decide

/-- The pin index one short of the drop point and on it, at a confirm and at a change of the index; and a
course carrier MISSED during its engagement. -/
theorem witness_PinConfirmEndsTheOperation_drop :
    (let at_ (s : State) (p : Int) : State := s.setPos { s.pos with idx := some ⟨p, p, p⟩ }
     (after .pinConfirm (at_ engaging 14)).carr.pin = .engaged 3 7 ∧
     (after .pinConfirm (at_ engaging 15)).carr.pin = .releasing 3 7 20 false ∧
     (let s := withCarrier (withPin course (.engaged 3 7)) { waiting with state := .held }
      s.setup? = some rec0 ∧ (at_ s 14).judgeDrop.carr.pin = .engaged 3 7 ∧
      (at_ s 15).judgeDrop.carr.pin = .releasing 3 7 20 false) ∧
     (let s := withCarrier engaging { waiting with state := .missed }
      (after .pinConfirm s).carr.course = some { waiting with state := .missed })) := by decide

/-- A PICK and PARKs at 15 and at 16 waiting notices. -/
theorem witness_PinConfirmEndsTheOperation_list :
    (let s (k : Nat) (p : Pin) : State := withPin (withList ready (List.replicate k (.take 0 0))) p
     let l (k : Nat) (c : Instr) (p : Pin) : Nat := (after c (s k p)).line.list.length
     let d (k : Counter) (c : Instr) (p : Pin) : Nat := (after c (s 16 p)).count k
     l 15 .pinConfirm (.engaging 3 7 9 false) = 16 ∧ d .pickDrops .pinConfirm (.engaging 3 7 9 false) = 1 ∧
     l 15 .pinConfirm (.releasing 3 7 9 false) = 16 ∧ d .parkDrops .pinConfirm (.releasing 3 7 9 false) = 1 ∧
     d .parkDrops .engagementDeadline (.engaging 3 7 9 false) = 1 ∧
     d .parkDrops .releaseDeadline (.releasing 3 7 9 false) = 1) ∧
    clearedFor 7 (some ⟨7, 2⟩) = none ∧ clearedFor 6 (some ⟨7, 2⟩) = some ⟨7, 2⟩ := by decide

/-- The drop needle at both ends of the rail and within it, and the fire time. -/
theorem witness_PinConfirmEndsTheOperation_clamp :
    (let n (p : Int) : Int := (course.setPos { course.pos with idx := some ⟨0, 0, p⟩ }).dropNeedle
     n (-65) = -64 ∧ n (-64) = -64 ∧ n 15 = 15 ∧ n 79 = 79 ∧ n 80 = 79) ∧
    course.setup? = some rec0 ∧ course.fireTime = 20 := by decide

/-- R145: releases of an earlier course, told, silent and at their deadline, and an engagement's deadline, end
while the carrier of the new course waits at a needle the pin index has passed: it is MISSED, with no course
flag, no stop cause and no latch. -/
theorem witness_PinConfirmEndsTheOperation_ended :
    (let s := withCarrier (parked course none) { waiting with expected := some (-1) }
     let missed (t : State) : Bool := t.carr.course.map (·.state) == some .missed &&
       !t.isCourseFlag .carrierMissed && !t.isRecorded .carrierMissed && !t.ctl.latch
     missed (after .pinConfirm (withPin s (.releasing 4 6 9 false))) = true ∧
     missed (after .pinConfirm (withPin s (.releasing 4 6 9 true))) = true ∧
     missed (after .releaseDeadline (withPin s (.releasing 4 6 9 false))) = true ∧
     missed (after .engagementDeadline (withPin s (.engaging 4 6 9 false))) = true) := by decide

theorem witness_PinDeadlineLosesTheCarrier :
    ready.carr.pin = .released ∧
    (after .engagementDeadline engaging).isCourseFlag .carrierFault = true ∧
    (after .engagementDeadline engaging).isRecorded .carrierFault = true ∧
    (after .engagementDeadline engaging).ctl.latch = true ∧
    (after .engagementDeadline (withPin ready (.engaging 3 7 20 false))).line.list = [.park 7 3 none] ∧
    (after .releaseDeadline (withPin ready (.releasing 3 7 20 false))).line.list = [.park 7 3 none] ∧
    (after .releaseDeadline (withPin ready (.releasing 3 7 20 true))).line.list = [] := by decide

/-! ### Witnesses: the carriage line -/

set_option maxRecDepth 8000 in
/-- Two stations, and fields at both ends of their ranges. -/
theorem witness_SentNoticesAreHeardAsSent :
    (2 : StationNo) ≠ 1 ∧
    sortNotice 1 ((Notice.take 65535 15).bits 2) = [.take 2 65535 15] ∧
    sortNotice 1 ((Notice.park 7 3 (some (-32768))).bits 2) = [.park 2 7 3 0x8000] ∧
    sortNotice 1 ((Notice.claim 7 1 65535 255 .failed).bits 2) = [.claim 2 ⟨7, 1, 65535, 255, 4⟩] := by
  decide

/-- R172: a report with every field at the top of its range. -/
def topReport : Report where
  pass := 7
  row := 1
  kind := .idle
  flags := 0x1FF
  tally := ⟨4096, 1, 2, 3, 4, 5, 6⟩
  doubles := 256
  lateDoubles := 255
  freeSlots := 4
  freeOrders := 8

set_option maxRecDepth 2000 in
/-- R172: its body written out from the table. -/
theorem test_report_bytes :
    (Notice.report topReport).body = [0, 7, 0, 1, 0x89, 0xFF, 0x90, 0, 0, 1, 0, 2, 0, 3, 0, 4, 0, 5, 0, 6,
      255, 255] := by decide

theorem witness_SentNoticesAreHeardAsSent_report : topReport.fits :=
  ⟨by decide, by decide, by decide, by decide, by decide, by decide, by decide, by decide, by decide⟩

/-- R156: class first and age second: a PICK joins after the TAKE that waits and before CLAIM and REPORT, a
CLAIM after the CLAIM that waits. -/
theorem test_list_order :
    (let c (n : Nat) : Notice := .claim 7 1 n 1 .loop
     joinList (.pick 7 3) [.take 7 3, c 0, .report topReport] =
       [.take 7 3, .pick 7 3, c 0, .report topReport] ∧
     joinList (c 5) [.take 7 3, c 0, .report topReport] = [.take 7 3, c 0, c 5, .report topReport]) := by
  decide

set_option maxRecDepth 8000 in
/-- R149, R151: a receiver in a notice hears the cells of a CLAIM as the command, and a cell without its
transition, or with no level told, as a symbol error; a CLEAR with neither mark only ends its notice. -/
theorem test_hear_cells :
    (let s := after .startMark ready
     let cells (l : List Bool) : List (HeardHalf × HeardHalf) :=
       l.map fun b => (some (cellOf b).1, some (cellOf b).2)
     let last : HeardHalf × HeardHalf := (some endMark.1, some endMark.2)
     hearCells s (cells ((Notice.take 7 3).bits 2) ++ [last]) = [.take 2 7 3] ∧
     hearCells s (cells ((Notice.take 7 3).bits 2)) = [] ∧
     hearCells s (cells [true, false] ++ [(none, some .dominant)]) = [.symbolError] ∧
     hearCells s (cells [true, false] ++ [(some .dominant, some .dominant)]) = [.symbolError] ∧
     hearCells ready [last] = []) ∧
    (readClear 31 [0] = [.clearStop nowhere] ∧ ready.addressed nowhere = false ∧
     readClear 31 [3] = [.clearStop 31, .clearSticky 31]) := by decide

/-- Each check, before SETUP, at the threshold and below it; and a window with and without an error. -/
theorem witness_LineHealthFollowsItsWindows :
    hearing.ctl.mode = .setup ∧ hearing.hears = true ∧ course.hears = true ∧ ready.setup? = some rec0 ∧
    (after (.lineError .length) hearing).count .lengthErrors = 1 ∧
    (after (.lineError .check) ready).count .degradations = 1 ∧
    (after .symbolError course).isCourseFlag .lineDegraded = true ∧
    (let s := ready.setCtl { ready.ctl with mode := .ready { rec0 with errorThreshold := 2 } }
     (after (.lineError .classCode) s).line.windowErrors = 1 ∧
     (after (.lineError .bodyLength) s).line.degraded = false) ∧
    (let s := ready.setLine { ready.line with degraded := true, cleanWindows := 15 }
     (after .lineWindowEnd s).line.degraded = false ∧
     (after .lineWindowEnd (s.setLine { s.line with windowErrors := 1 })).line.cleanWindows = 0) := by
  decide

theorem witness_ClashAndForeignNotices :
    (16#5).toNat ≠ ready.ctl.station.toNat ∧ (30#5).toNat ≠ 31 ∧
    (after (.foreignNotice 0x05 31) ready).isSticky .unsupported = true ∧
    (after (.foreignNotice 0x10 30) ready).isSticky .unsupported = true ∧
    (after (.foreignNotice 0x19 31) ready).count .foreignNotices = 1 ∧
    (after (.foreignNotice 0x00 16) ready).isSticky .unsupported = false ∧
    (after (.foreignNotice 0x10 4) ready).isSticky .unsupported = true ∧
    ready.hears = true ∧
    (let clash (c : Instr) : Prop := (after c ready).isRecorded .addressClash = true
     clash (.addressClash 0) ∧ clash (.foreignNotice 0x10 0) ∧ clash (.report 0 0) ∧
     clash (.status 0 0) ∧ clash (.take 0 7 3) ∧
     clash (.pick 0 7 3) ∧ clash (.park 0 7 3 0) ∧ clash (.claim 0 ⟨7, 1, 0, 1, 1⟩)) ∧
    (after (.status 2 0) ready).isRecorded .addressClash = false := by decide

/-- A receiver in each state; a notice heard in two of them and ignored in the others. -/
theorem witness_ReceiverFollowsTheLine :
    State.reset.line.receiver = .waitIdle ∧ (after .receiverIdle State.reset).line.receiver = .idle ∧
    (after .startMark ready).line.receiver = .receiving ∧
    (after .startMark ready).endMark.line.receiver = .idle ∧
    (after .receiverIdle (after .startMark ready).endMark).line.idleTime = 3 ∧
    (after .symbolError ready).line.receiver = .discarding ∧
    (after .receiverIdle (after .symbolError ready)).line.receiver = .idle ∧
    onTheLine (.span ⟨1, 1, 0, 1, 1⟩) = true ∧ onTheLine .symbolError = true ∧
    (after (.reset 31) State.reset).line = State.reset.line ∧
    (after .symbolError (after .symbolError ready)).count .symbolErrors = 1 := by decide

/-- A start, none for want of a notice, of the guard, of an IDLE receiver and of idle time; and the ends of a
TAKE's transmission. -/
theorem witness_TransmissionKeepsOrSendsItsNotice :
    (let s := withList ready [.take 7 3]
     let t := after .transmitStart s
     s.line.list = [.take 7 3] ∧ s.line.sending = none ∧ s.line.guardCut = false ∧
     s.line.receiver = .idle ∧ s.line.idleTime = 3 ∧ t.line.sending = some (.take 7 3) ∧
     ((after .noticeSent t).carrier 3).reserved = some ⟨7, 0⟩ ∧ (after .noticeSent t).line.list = [] ∧
     (after .noticeSent t).line.idleTime < 3 ∧
     (after .arbitrationLost t).line.list = [.take 7 3] ∧
     (after .sendCollision t).count .sendCollisions = 1 ∧
     (after .startMark s).line.receiver ≠ .idle) ∧
    ready.line.list = [] ∧
    (let s := withList ready [.pick 7 3]
     (after .noticeSent (after .transmitStart s)).line.list = [] ∧
     (after .transmitStart (s.setLine { s.line with idleTime := 2 })).line.sending = none ∧
     (after .transmitStart (s.setLine { s.line with guardCut := true })).line.sending = none) := by decide

/-- The send of a TAKE with the standby take and the course's take QUEUED for it, and one with neither. -/
theorem witness_TransmissionKeepsOrSendsItsNotice_takes :
    (let cc := { waiting with take := some .queued }
     let s := withCarrier (withList course [.take 7 3]) cc
     let s := s.setCarr { s.carr with standbyTake := some ⟨3, 7, .queued⟩ }
     let t := after .noticeSent (after .transmitStart s)
     t.carr.course = some waiting ∧ t.carr.standbyTake = some ⟨3, 7, .made⟩) ∧
    (let s := withCarrier (withList course [.take 7 3]) { waiting with pass := 6, take := some .queued }
     (after .noticeSent (after .transmitStart s)).carr.course = s.carr.course) := by decide

/-- A guard cut of the TAKE a course waits on, and of one whose engagement is in flight. -/
theorem witness_GuardCutsAndReturns_takes :
    (let s := withCarrier (withList course [.take 7 3]) { waiting with take := some .queued }
     let t := after .guardCut (after .transmitStart s)
     t.carr.course = some { waiting with take := some .denied, state := .denied } ∧
     t.isCourseFlag .carrierDenied = true ∧ t.isRecorded .carrierDenied = true ∧
     (let u := after .guardCut (after .transmitStart (withPin s (.engaging 3 7 20 true)))
      u.carr.course = some { waiting with take := some .denied } ∧
      u.isCourseFlag .carrierDenied = false)) := by decide

/-- A guard cut of a TAKE beside takes for another carrier and another pass. -/
theorem witness_GuardCutsAndReturns_others :
    (let s := (withList ready [.take 7 3]).setCarr { ready.carr with
       standbyTake := some ⟨4, 7, .queued⟩, course := some { waiting with pass := 6, take := some .queued } }
     let t := after .guardCut (after .transmitStart s)
     t.carr.standbyTake = s.carr.standbyTake ∧ t.carr.course = s.carr.course ∧ t.course.flags = 0) := by decide

theorem witness_GuardCutsAndReturns :
    ready.line.sending = none ∧ ready.line.guardCut = false ∧
    (let s := (withList ready [.take 7 3]).setCarr
       { ready.carr with standbyTake := some ⟨3, 7, .queued⟩ }
     let t := after .guardCut (after .transmitStart s)
     t.line.guardCut = true ∧ t.line.receiver = .receiving ∧ t.line.list = [] ∧
     t.carr.standbyTake = some ⟨3, 7, .denied⟩ ∧
     (after .guardReturn t).line.guardCut = false) := by decide

/-! ### Witnesses: station control -/

/-- Every field in range; the first bad one the second; a late SETUP; and one for another station. -/
theorem witness_SetupIsCheckedOnceFieldByField :
    hearing.hears = true ∧ hearing.addressed 0 = true ∧ hearing.ctl.mode = .setup ∧
    SetupBody.firstBad body0 false = none ∧
    (after (.setup 0 { body0 with pitch := 2047 }) hearing).ctl.firstBad = some 2 ∧
    (after (.setup 0 { body0 with unclean := 8 }) hearing).ctl.firstBad = some 18 ∧
    ready.hears = true ∧ ready.ctl.mode ≠ .setup ∧ (after (.setup 31 body0) ready).isSticky .lateSetup = true ∧
    ready.addressed 1 = false := by decide

/-- The record of a body: signed fields, the policies, and the pin offset at an owner and at no owner. -/
theorem witness_SetupIsCheckedOnceFieldByField_record :
    (let b := { body0 with kref := 0xFFFFFF, offset := 0xFFFFFE, phase := 0xFFFD, pinOffset := 0xFFFFFC,
                           nearest := true, trust := true, useRow := true }
     let r := SetupBody.record b true
     r.kref = -1 ∧ r.offset = -2 ∧ r.phase = -3 ∧ r.pinOffset = -4 ∧ r.rounding = .nearest ∧
     r.unheard = .trust ∧ r.rowPolicy = .use ∧ SetupBody.record b false = { r with pinOffset := 0 }) := by
  decide

/-- W before the SETUP and with a record. -/
theorem witness_SetupIsCheckedOnceFieldByField_width :
    hearing.setup? = none ∧ hearing.width = 4096 ∧ ready.setup? = some rec0 ∧ ready.width = 16 := by decide

/-- R173: a body read from the bytes 0 to 25 written as its table lays them out; byte 14 with the rounding
bit alone, and the other two. -/
theorem test_setup_bytes :
    (let l := (List.range 26).map fun k : Nat => BitVec.ofNat 8 k
     readSetup (l.set 14 1) =
       { body0 with
         width := 0x0001, pitch := 0x0203, kref := 0x040506, offset := 0x070809, phase := 0x0A0B,
         anticipation := 0x0C0D, nearest := true, fireDeadline := 15, faultLimit := 16, floatLimit := 17,
         runLimit := 18, tolerance := 19, errorThreshold := 20, pinOffset := 0x151617, drop := 24,
         unclean := 25 } ∧
     (readSetup (l.set 14 6)).nearest = false ∧ (readSetup (l.set 14 6)).trust = true ∧
     (readSetup (l.set 14 6)).useRow = true) := by decide

/-- The pin RELEASED, ENGAGED, ENGAGING and RELEASING at a course reset. -/
theorem witness_CourseResetEmptiesTheStation :
    ready.hears = true ∧ ready.addressed 31 = true ∧ ready.addressed 1 = false ∧ ready.carr.pin = .released ∧
    (after (.reset 0) (withPin ready (.engaged 3 7))).carr.pin = .releasing 3 7 20 true ∧
    (after (.reset 0) engaging).line.list = [.park 7 3 none] ∧
    (after (.reset 0) (withPin ready (.releasing 3 7 9 false))).carr.pin = .releasing 3 7 9 true ∧
    (after (.reset 0) firing).head.fire = some ⟨.high, none, 20⟩ := by decide

theorem witness_ClearReleasesLatchAndFlags :
    ready.hears = true ∧ ready.addressed 0 = true ∧
    (let s := (withHead ready fun h => { h with railCause := true }).raise .railLow
     s.levelHolds = true ∧ (after (.clearStop 0) s).ctl.latch = true ∧
     (after (.clearSticky 0) s).isRecorded .railLow = true) ∧
    (let s := ready.raise .railLow
     s.levelHolds = false ∧ (after (.clearStop 0) s).ctl.latch = false ∧
     (after (.clearSticky 0) s).isRecorded .railLow = false) := by decide

/-- Room for each page's parts with the list as long as that allows, one place too few, a full list, the clear
flag, an unknown page, and another station. -/
theorem witness_QueryPlacesThePartsOfItsPage :
    (let s (k : Nat) : State := (withList ready (List.replicate k (.pick 0 0))).bump .railDrops
     ((s 15).hears = true ∧ (after (.queryPage0 0 0) (s 15)).line.list.length = 16) ∧
     ((after (.queryPage1 0 1) (s 13)).line.list.length = 16 ∧
      (after (.queryPage1 0 1) (s 13)).count .railDrops = 0 ∧
      (after (.queryPage1 0 0) (s 13)).count .railDrops = 1 ∧
      (after (.queryPage1 0 1) (s 14)).count .statusDrops = 1) ∧
     ((after (.queryPage2 0 0) (s 12)).line.list.length = 16 ∧
      (after (.queryPage2 0 0) (s 13)).count .statusDrops = 1) ∧
     ((after (.queryPage0 0 0) (s 16)).count .statusDrops = 1)) ∧
    (after (.queryUnknownPage 0 3 0) ready).isSticky .unsupported = true ∧ ready.addressed 1 = false ∧
    ready.count .encoderErrors ≤ 65535 ∧ fullQueue.course.queue.length = 8 := by decide

/-- R172, R183, R184, R190: each table has every one of its names, each once, at its own place. -/
theorem test_table_orders :
    stickyOrder.map (·.idx) = List.range 14 ∧ causeOrder.map (·.idx) = List.range 13 ∧
    courseFlagOrder.map (·.idx) = List.range 9 ∧ counterOrder.map (·.idx.val) = List.range 41 ∧
    ready.count .encoderErrors ≤ 65535 ∧ counterOrder[0]? = some .encoderErrors := by decide

/-- R189: page 0 of a station just reset, after its page and part bytes: SETUP with STANDBY EMPTY, head
UNKNOWN, 4 free slots. -/
theorem test_page0_after_reset :
    State.reset.page0 = [0x00, 0x80, 0, 0, 0, 0, 0, 0, 0, 0, 0, 0, 0, 0x04] ++ List.replicate 16 0 := by
  decide

/-- R191: a record HELD by station 2 with a reservation of pass 7 by it. -/
theorem test_record_bytes :
    recordBytes ⟨.held 2, some ⟨7, 2⟩⟩ = [0xA2, 0, 0, 2, 0, 7] ∧
    recordBytes ⟨.parked (-1), none⟩ = [0x40, 0xFF, 0xFF, 0, 0, 0] ∧ pinByte (.engaged 3 7) = 0x93 := by
  decide

end Sys2Proof.Tests
end

section
/-! PROOF. The needle quotient of R11 under its two roundings (R12, R13): it is odd in the dividend, so each
rounding is settled on dividends from zero up and carried over to those below. -/

namespace Sys2Proof.Machine

/-! ### The sign of the dividend -/

@[simp] theorem roundNat_zero (r : Rounding) (p : Nat) : roundNat r 0 p = 0 := by
  cases r <;> simp [roundNat]

@[simp] theorem roundDiv_natCast (r : Rounding) (m p : Nat) : roundDiv r m p = roundNat r m p := by
  simp [roundDiv]

/-- The quotient takes the sign of the dividend, under either rounding. -/
theorem roundDiv_neg (r : Rounding) (D : Int) (p : Nat) : roundDiv r (-D) p = -roundDiv r D p := by
  obtain hD | rfl | hD := lt_trichotomy D 0
  · simp [roundDiv, hD, hD.le]
  · simp [roundDiv]
  · simp [roundDiv, hD, hD.le]

/-! ### TRUNC -/

/-- From zero up, TRUNC is the floor. -/
theorem roundDiv_trunc_eq_iff {D : Int} {p : Nat} (hp : 0 < p) (hD : 0 ≤ D) (n : Nat) :
    roundDiv .trunc D p = n ↔ (n * p : Int) ≤ D ∧ D ≤ (n + 1) * p - 1 := by
  obtain ⟨m, rfl⟩ := Int.eq_ofNat_of_zero_le hD
  have floor : m / p = n ↔ n * p ≤ m ∧ m < (n + 1) * p := by
    rw [Nat.div_eq_iff hp, add_one_mul]
    omega
  rw [roundDiv_natCast, Int.natCast_inj, show roundNat .trunc m p = m / p from rfl, floor,
    Int.le_sub_one_iff]
  norm_cast

/-! ### NEAREST -/

/-- `q` is an integer nearest to `D / p`, and the even one where two are. -/
structure IsNearestEven (D : Int) (p : Nat) (q : Int) : Prop where
  near : 2 * (D - q * p).natAbs ≤ p
  even : 2 * (D - q * p).natAbs = p → q % 2 = 0

theorem IsNearestEven.neg {D : Int} {p : Nat} {q : Int} (h : IsNearestEven D p q) :
    IsNearestEven (-D) p (-q) := by
  have mirrored : (-D - -q * p).natAbs = (D - q * p).natAbs := by
    rw [← Int.natAbs_neg]
    congr 1
    ring
  constructor <;> rw [mirrored]
  · exact h.near
  · intro half
    have := h.even half
    omega

/-- Of two such integers neither is above the other: one apart, both are at an exact half and so even, and two
apart they are too far from each other for one dividend. -/
theorem IsNearestEven.le {D : Int} {p : Nat} {q q' : Int} (hp : 0 < p)
    (h : IsNearestEven D p q) (h' : IsNearestEven D p q') : q' ≤ q := by
  obtain ⟨near, even⟩ := h
  obtain ⟨near', even'⟩ := h'
  by_contra! below
  have oneApart : (q + 1) * p ≤ q' * p := Int.mul_le_mul_of_nonneg_right below (by omega)
  rw [add_one_mul] at oneApart
  have evenBelow : q % 2 = 0 := even (by omega)
  have evenAbove : q' % 2 = 0 := even' (by omega)
  have twoApart : (q + 2) * p ≤ q' * p := Int.mul_le_mul_of_nonneg_right (by omega) (by omega)
  rw [add_mul] at twoApart
  omega

theorem IsNearestEven.unique {D : Int} {p : Nat} {q q' : Int} (hp : 0 < p)
    (h : IsNearestEven D p q) (h' : IsNearestEven D p q') : q = q' :=
  le_antisymm (h'.le hp h) (h.le hp h')

/-- On a magnitude, NEAREST is judged by the remainder: below the half, above it, and at it by the parity of
the quotient. -/
theorem isNearestEven_roundNat (m : Nat) {p : Nat} (hp : 0 < p) :
    IsNearestEven m p (roundNat .nearest m p) := by
  have division : (m : Int) = (m / p : Nat) * p + (m % p : Nat) := mod_cast (Nat.div_add_mod' m p).symm
  have remainder := Nat.mod_lt m hp
  rw [division, roundNat]
  generalize m / p = k at *
  generalize m % p = j at *
  have atQuotient : (k * p + j - (k : Nat) * p : Int) = j := by ring
  have aboveQuotient : (k * p + j - (k + 1 : Nat) * p : Int) = j - p := by push_cast; ring
  split_ifs with low high parity
  · constructor <;> rw [atQuotient] <;> omega
  · constructor <;> rw [aboveQuotient] <;> omega
  · constructor <;> rw [atQuotient] <;> omega
  · constructor <;> rw [aboveQuotient] <;> omega

theorem isNearestEven_roundDiv (D : Int) {p : Nat} (hp : 0 < p) :
    IsNearestEven D p (roundDiv .nearest D p) := by
  obtain ⟨m, rfl | rfl⟩ := Int.eq_nat_or_neg D
  · rw [roundDiv_natCast]
    exact isNearestEven_roundNat m hp
  · rw [roundDiv_neg, roundDiv_natCast]
    exact (isNearestEven_roundNat m hp).neg

/-- NEAREST is the one nearest integer, even at an exact half. -/
theorem roundDiv_nearest_eq {D : Int} {p : Nat} {q : Int} (hp : 0 < p) (h : IsNearestEven D p q) :
    roundDiv .nearest D p = q :=
  (isNearestEven_roundDiv D hp).unique hp h

/-! ### The statements -/

/-- Settles O15: from zero up by `roundDiv_trunc_eq_iff`, below zero by the sign. -/
theorem truncatedQuotientCells : Obligations.TruncatedQuotientCells := by
  intro D p hp
  have mirror (n : Nat) : roundDiv .trunc D p = -n ↔ roundDiv .trunc (-D) p = n := by
    rw [roundDiv_neg, neg_eq_iff_eq_neg]
  refine ⟨fun above below => ?_, fun n nonneg _ => roundDiv_trunc_eq_iff hp nonneg n,
    fun n nonpos _ => ?_⟩
  · obtain nonneg | nonpos := le_total 0 D
    · exact (roundDiv_trunc_eq_iff hp nonneg 0).2 ⟨by simpa, by simpa using below⟩
    · exact (mirror 0).2 ((roundDiv_trunc_eq_iff hp (by omega) 0).2 ⟨by simpa, by simp; omega⟩)
  · rw [mirror, roundDiv_trunc_eq_iff hp (by omega)]
    omega

/-- Settles O16: NEAREST is a nearest integer, even at a half, and there is only one such. -/
theorem nearestQuotientHalvesToEven : Obligations.NearestQuotientHalvesToEven := by
  intro D p hp
  refine ⟨fun q near => ?_, fun q half even => ?_, (isNearestEven_roundDiv D hp).near,
    roundDiv_neg .nearest D p⟩
  · exact roundDiv_nearest_eq hp ⟨near.le, fun half => absurd half near.ne⟩
  · exact roundDiv_nearest_eq hp ⟨half.le, fun _ => even⟩

end Sys2Proof.Machine
end

section
/-! PROOF. An illegal transition of the encoder (R1, R2). -/

namespace Sys2Proof.Machine

/-! ### The edge by the table of R1 -/

/-- What an edge adds to C; none where it is illegal. -/
def Edge.delta : Edge → Option Int
  | .still => some 0
  | .up => some 1
  | .down => some (-1)
  | .illegal => none

theorem Edge.delta_eq_none_iff (e : Edge) : e.delta = none ↔ e = .illegal := by
  cases e <;> simp [Edge.delta]

/-- The table of R1 agrees with the place of the levels in the sequence. -/
theorem quadrature_eq_delta_judgeEdge :
    ∀ a b a' b' : Bool, quadrature (a, b) (a', b') = (judgeEdge a b a' b').delta := by decide

/-- The station with the decoder phase at these levels. -/
def State.takePhase (s : State) (a b : Bool) : State :=
  s.setPos { s.pos with phaseA := a, phaseB := b }

theorem takePhase_frame (s : State) (a b : Bool) : Frame [.posPhase] s (s.takePhase a b) := by
  refine .of ?_
  intro p hp
  cases p <;> simp_all [Part.same, State.takePhase]

theorem exec_encoderEdge_of_illegal {a b : Bool} {s : State}
    (h : judgeEdge s.pos.phaseA s.pos.phaseB a b = .illegal) :
    exec (.encoderEdge a b) s =
      .next (((s.takePhase a b).setSticky .encoder).bump .encoderErrors) := by
  simp [exec, execEncoderEdge, h, State.takePhase]

/-! ### Flags and counters beside one another -/

theorem StickyExcept.of_setSticky (s : State) (f : StickyFlag) : StickyExcept [f] s (s.setSticky f) := by
  intro g hg
  simp_all [State.isSticky_setSticky, eq_comm]

theorem CountsExcept.of_bump (s : State) (k : Counter) : CountsExcept [k] s (s.bump k) := by
  intro j hj
  simp_all [State.count_bump, eq_comm]

/-- Settles O19: the phase is taken, ENCODER set and the error counted, one operation after another. -/
theorem illegalEdgeIsFlaggedAndCounted : Obligations.IllegalEdgeIsFlaggedAndCounted := by
  intro a b s noDelta
  have illegal : judgeEdge s.pos.phaseA s.pos.phaseB a b = .illegal := by
    rwa [quadrature_eq_delta_judgeEdge, Edge.delta_eq_none_iff] at noDelta
  have frame : Frame [.posPhase, .sticky, .counts] s
      (((s.takePhase a b).setSticky .encoder).bump .encoderErrors) :=
    ((takePhase_frame s a b).then (setSticky_frame _ .encoder) (n := [.posPhase, .sticky])).then
      (bump_frame _ .encoderErrors)
  refine ⟨_, exec_encoderEdge_of_illegal illegal, frame.same, rfl, rfl,
    ?flagged, ?flags, ?counted, ?counts⟩
  case flagged => exact (State.isSticky_setSticky _ .encoder .encoder).trans (by simp)
  case flags => exact StickyExcept.of_setSticky (s.takePhase a b) .encoder
  case counted => exact State.count_bump _ .encoderErrors .encoderErrors
  case counts => exact CountsExcept.of_bump ((s.takePhase a b).setSticky .encoder) .encoderErrors

end Sys2Proof.Machine
end

section
/-! PROOF. A SPAN for a row without a slot (R24, R27, R34, R35): which slot it is given, what stands in that
slot afterwards, and the refusal. -/

namespace Sys2Proof.Machine

/-! ### A pattern notice that gets through -/

/-- A SPAN that is heard by a station of its mask, out of SETUP, reaches the row store. -/
theorem exec_span_of_accepted {body : SpanBody} {s : State} (hears : s.hears = true)
    (mine : s.inMask body.mask = true) (notSetup : s.ctl.mode ≠ .setup) :
    exec (.span body) s = .next (s.endMark.takeSpan body) := by
  have picked : s.ifMasked body.mask (fun t => t.filtered fun u => u.takeSpan body) =
      s.endMark.filtered fun u => u.takeSpan body :=
    (State.heard_of_hears hears _).trans (if_pos mine)
  have passes : s.endMark.filtered (fun u => u.takeSpan body) = s.endMark.takeSpan body := by
    unfold State.filtered
    split
    · exact absurd ‹_› notSetup
    · rfl
  exact congrArg Host.Outcome.next (picked.trans passes)

/-! ### The slots in order -/

/-- A search through the slots is one through the numbers 0 to 3 from below. -/
theorem allSlots_find? (p : Fin 4 → Bool) : allSlots.find? p = Fin.find? p :=
  Fin.find?_eq_find?_finRange.symm

theorem mem_allSlots (i : Fin 4) : i ∈ allSlots := List.mem_finRange i

/-- The search for a FREE slot gives the lowest-numbered one (R27). -/
theorem RowStore.find?_free_eq_some_iff (u : RowStore) (i : Fin 4) :
    (allSlots.find? fun j => u.slots[j].isNone) = some i ↔
      u.slots[i] = none ∧ ∀ j : Fin 4, j < i → u.slots[j] ≠ none := by
  rw [allSlots_find?, Fin.find?_eq_some_iff]
  simp only [Option.isNone_iff_eq_none, Option.isNone_eq_false_iff, Option.isSome_iff_ne_none]

theorem RowStore.find?_free_eq_none_iff (u : RowStore) :
    (allSlots.find? fun j => u.slots[j].isNone) = none ↔ ∀ j : Fin 4, u.slots[j] ≠ none := by
  rw [allSlots_find?, Fin.find?_eq_none_iff]
  simp only [Option.isNone_eq_false_iff, Option.isSome_iff_ne_none]

/-- No slot is newer than the newest (R24). -/
theorem RowStore.seq_le_newestSeq {u : RowStore} {i : Fin 4} {x : Slot} (h : u.slots[i] = some x) :
    x.seq ≤ u.newestSeq := by
  have listed : x.seq ∈ allSlots.filterMap fun j => u.slots[j].map (·.seq) :=
    List.mem_filterMap.2 ⟨i, mem_allSlots i, by rw [h]; rfl⟩
  rw [RowStore.newestSeq, List.foldl_eq_foldr]
  exact List.le_max_of_le' 0 listed le_rfl

/-- Beside a freed slot, a held one keeps all but its arrival number (R24). -/
theorem RowStore.free_slot_ne {u : RowStore} {i j : Fin 4} {x z : Slot} (held : u.slots[i] = some x)
    (other : j ≠ i) (beside : u.slots[j] = some z) :
    (u.free i).slots[j] = some { z with seq := if x.seq < z.seq then z.seq - 1 else z.seq } := by
  rw [u.free_slot i j x held, if_neg other.symm, beside, Option.map_some]
  split <;> rfl

/-! ### Use, and the slot to evict -/

theorem CourseCtl.namesRow_iff (c : CourseCtl) (row : Word16) (running : Bool) :
    c.namesRow row running = true ↔
      (∃ o ∈ c.queue, o.row = row) ∨ (∃ b, c.standby = some b ∧ b.order.row = row) ∨
      (running = true ∧ ∃ a, c.active = some a ∧ a.starved = false ∧ a.order.row = row) := by
  unfold CourseCtl.namesRow
  cases c.standby <;> cases c.active <;> simp [or_assoc]

theorem slotInUse_iff (s : State) (i : Fin 4) (running : Bool) :
    slotInUse s.course s.rows i running = true ↔ InUse s i running := by
  unfold slotInUse InUse
  cases s.rows.slots[i] <;> simp [CourseCtl.namesRow_iff]

/-- A slot that may be evicted: held, neither in use nor pinned (R27, R35). -/
structure MayEvict (s : State) (i : Fin 4) : Prop where
  held : s.rows.slots[i] ≠ none
  unused : ¬ InUse s i true
  unpinned : s.rows.pinned ≠ some i

/-- The slots that the search for the slot to evict goes through. -/
def evictionCandidates (c : CourseCtl) (u : RowStore) : List (Fin 4) :=
  allSlots.filter fun i => u.slots[i].isSome && !slotInUse c u i true && u.pinned != some i

theorem mem_evictionCandidates_iff (s : State) (i : Fin 4) :
    i ∈ evictionCandidates s.course s.rows ↔ MayEvict s i := by
  simp only [evictionCandidates, List.mem_filter, mem_allSlots, true_and, Bool.and_eq_true,
    Option.isSome_iff_ne_none, Bool.not_eq_true', bne_iff_ne, ← Bool.not_eq_true, slotInUse_iff]
  exact ⟨fun ⟨⟨held, unused⟩, unpinned⟩ => ⟨held, unused, unpinned⟩,
    fun ⟨held, unused, unpinned⟩ => ⟨⟨held, unused⟩, unpinned⟩⟩

/-- The arrival number of a slot, 0 for a FREE one. -/
def RowStore.seqAt (u : RowStore) (i : Fin 4) : Nat := (u.slots[i].map (·.seq)).getD 0

theorem RowStore.seqAt_of_held {u : RowStore} {i : Fin 4} {x : Slot} (h : u.slots[i] = some x) :
    u.seqAt i = x.seq := by
  simp [seqAt, h]

/-- The slot to evict is the candidate with the lowest arrival number. -/
theorem evictable_eq_argmin (c : CourseCtl) (u : RowStore) :
    evictable c u = (evictionCandidates c u).argmin u.seqAt := by
  refine List.foldl_ext _ _ none fun best i candidate => ?_
  simp only [List.mem_filter, Bool.and_eq_true] at candidate
  obtain ⟨-, ⟨held, -⟩, -⟩ := candidate
  obtain ⟨x, hx⟩ := Option.isSome_iff_exists.1 held
  cases best with
  | none => rfl
  | some j => cases hj : u.slots[j] <;> simp [List.argAux, RowStore.seqAt, hx, hj]

theorem evictable_eq_none_iff (s : State) :
    evictable s.course s.rows = none ↔ ∀ i, ¬ MayEvict s i := by
  rw [evictable_eq_argmin, List.argmin_eq_none, List.eq_nil_iff_forall_not_mem]
  simp only [mem_evictionCandidates_iff]

theorem MayEvict.evictable_eq {s : State} {i : Fin 4} (may : MayEvict s i)
    (lowest : ∀ j, j ≠ i → MayEvict s j → s.rows.seqAt i < s.rows.seqAt j) :
    evictable s.course s.rows = some i := by
  cases chosen : evictable s.course s.rows with
  | none => exact absurd may ((evictable_eq_none_iff s).1 chosen i)
  | some k =>
    rw [evictable_eq_argmin] at chosen
    have notAbove : s.rows.seqAt k ≤ s.rows.seqAt i :=
      List.le_of_mem_argmin ((mem_evictionCandidates_iff s i).2 may) chosen
    have mayBe : MayEvict s k := (mem_evictionCandidates_iff s k).1 (List.argmin_mem chosen)
    by_contra other
    exact (lowest k (by simpa using other) mayBe).not_ge notAbove

/-! ### The first SPAN of a slot -/

/-- The SPAN names no needle of a bed of width `w` (R28). -/
def OffBed (b : SpanBody) (w : Nat) : Prop := w ≤ b.first.toNat ∨ b.length = 0

/-- The last needle of a SPAN, clamped to a bed of width `w` (R28). -/
def lastOnBed (b : SpanBody) (w : Nat) : Nat := min (b.first.toNat + b.length.toNat - 1) (w - 1)

theorem insertSpan_of_offBed {s : State} {body : SpanBody} (i : Fin 4) (x : Slot)
    (off : OffBed body s.width) : s.insertSpan i x body = s.bump .spansIgnored :=
  if_pos (off.imp_right BitVec.toNat_inj.2)

theorem insertSpan_of_fits {s : State} {body : SpanBody} {x : Slot} (i : Fin 4)
    (on : ¬ OffBed body s.width)
    (fits : paintCount body.first.toNat (lastOnBed body s.width) (SpanBody.paintColour body) x.spans ≤
      Config.spanMax) :
    s.insertSpan i x body = s.setRows (s.rows.put i (some { x with
      spans := paint body.first.toNat (lastOnBed body s.width) (SpanBody.paintColour body) x.spans })) :=
  (if_neg fun off => on (off.imp_right BitVec.toNat_inj.1)).trans (if_pos fits)

/-- One span at most: an empty list always has room for it. -/
theorem paintCount_nil_le (a b c : Nat) : paintCount a b c [] ≤ Config.spanMax := by
  calc paintCount a b c [] ≤ 0 + (if c = 0 then 0 else 1) := (Nat.sub_le _ _).trans (Nat.sub_le _ _)
    _ ≤ Config.spanMax := by split <;> decide

/-- What a SPAN leaves on an empty row of a bed of width `w` (R28, R29). -/
def spansOfFirst (b : SpanBody) (w : Nat) : List Span :=
  if w ≤ b.first.toNat ∨ b.length = 0 then []
  else paint b.first.toNat (lastOnBed b w) (SpanBody.paintColour b) []

theorem spansOfFirst_of_offBed {b : SpanBody} {w : Nat} (off : OffBed b w) : spansOfFirst b w = [] :=
  if_pos off

theorem spansOfFirst_of_onBed {b : SpanBody} {w : Nat} (on : ¬ OffBed b w) :
    spansOfFirst b w = paint b.first.toNat (lastOnBed b w) (SpanBody.paintColour b) [] := if_neg on

/-- A SPAN counted in an empty slot changes that slot alone. -/
theorem insertSpan_slot_of_empty (s : State) (i j : Fin 4) {x : Slot} (body : SpanBody)
    (stored : s.rows.slots[i] = some x) (empty : x.spans = []) :
    (s.insertSpan i x body).rows.slots[j] =
      if i = j then some { x with spans := spansOfFirst body s.width } else s.rows.slots[j] := by
  by_cases off : OffBed body s.width
  · rw [insertSpan_of_offBed i x off, spansOfFirst_of_offBed off, ← empty, ← stored]
    change s.rows.slots[j] = _
    split
    case isTrue same => rw [same]
    case isFalse => rfl
  · rw [insertSpan_of_fits i off (by rw [empty]; exact paintCount_nil_le _ _ _),
      spansOfFirst_of_onBed off, ← empty]
    exact RowStore.put_slot s.rows i j _

/-- What stands in slot `i` after a SPAN that took it for its row: its first SPAN is counted, and no other slot
is as new (R24, R27). -/
def TakenInto (body : SpanBody) (w : Nat) (u : RowStore) (i : Fin 4) : Prop :=
  ∃ y, u.slots[i] = some y ∧ y.row = body.row ∧ y.count = 1 ∧ y.state = .filling ∧
    y.spans = spansOfFirst body w ∧ ∀ (j : Fin 4) (z : Slot), j ≠ i → u.slots[j] = some z → z.seq < y.seq

section TakenSlot
variable {s : State} {u : RowStore} {i : Fin 4} {body : SpanBody}

theorem spanInto_slot_of_taken (taken : s.rows = u.takeSlot i body.row) (j : Fin 4) :
    (s.spanInto i body).rows.slots[j] =
      if i = j then some { state := .filling, row := body.row, seq := u.newestSeq + 1, count := 1,
                           spans := spansOfFirst body s.width }
      else u.slots[j] := by
  have fresh := RowStore.takeSlot_slot u i i body.row
  rw [if_pos rfl, ← taken] at fresh
  simp only [State.spanInto, fresh, if_true]
  rw [insertSpan_slot_of_empty _ i j body ((RowStore.put_slot _ i i _).trans (if_pos rfl)) rfl]
  split
  case isTrue => rfl
  case isFalse other =>
    rw [State.setRows_rows, RowStore.put_slot, if_neg other, taken, RowStore.takeSlot_slot, if_neg other]

theorem takenInto_spanInto (taken : s.rows = u.takeSlot i body.row) :
    TakenInto body s.width (s.spanInto i body).rows i := by
  refine ⟨_, (spanInto_slot_of_taken taken i).trans (if_pos rfl), rfl, rfl, rfl, rfl,
    fun j z other held => ?_⟩
  rw [spanInto_slot_of_taken taken j, if_neg other.symm] at held
  exact Nat.lt_succ_of_le (RowStore.seq_le_newestSeq held)

theorem spanInto_slot_of_taken_ne (taken : s.rows = u.takeSlot i body.row) {j : Fin 4} (other : j ≠ i) :
    (s.spanInto i body).rows.slots[j] = u.slots[j] :=
  (spanInto_slot_of_taken taken j).trans (if_neg other.symm)

end TakenSlot

/-! ### Counters of a SPAN put into a slot -/

theorem CountsExcept.mono {l m : List Counter} {s t : State} (h : CountsExcept l s t) (sub : l ⊆ m) :
    CountsExcept m s t := fun k hk => h k fun mem => hk (sub mem)

theorem insertSpan_counts (s : State) (i : Fin 4) (x : Slot) (body : SpanBody) :
    CountsExcept [.spansIgnored, .rowsDamaged] s (s.insertSpan i x body) := by
  unfold State.insertSpan
  dsimp only
  split_ifs
  · exact (CountsExcept.of_bump s .spansIgnored).mono (by simp)
  · exact fun _ _ => rfl
  · exact (CountsExcept.of_bump (s.setRows _) .rowsDamaged).mono (by simp)

theorem spanInto_counts (s : State) (i : Fin 4) (body : SpanBody) :
    CountsExcept [.spansIgnored, .rowsDamaged, .lateSpans] s (s.spanInto i body) := by
  unfold State.spanInto
  split
  · exact fun _ _ => rfl
  · split_ifs
    · exact (insertSpan_counts (s.setRows _) i _ body).mono (by simp)
    · exact (CountsExcept.of_bump s .lateSpans).mono (by simp)

/-! ### The slot a SPAN is given -/

section WithoutSlot
variable {s : State} {body : SpanBody} (noSlot : s.rows.find body.row = none)
include noSlot

theorem takeSpan_of_free {i : Fin 4} (free : s.rows.slots[i] = none)
    (first : ∀ j : Fin 4, j < i → s.rows.slots[j] ≠ none) :
    s.takeSpan body = (s.setRows (s.rows.takeSlot i body.row)).spanInto i body := by
  simp only [State.takeSpan, noSlot, (s.rows.find?_free_eq_some_iff i).2 ⟨free, first⟩]

theorem takeSpan_of_evictable (full : ∀ i : Fin 4, s.rows.slots[i] ≠ none) {i : Fin 4}
    (oldest : evictable s.course s.rows = some i) :
    s.takeSpan body =
      ((s.setRows ((s.rows.free i).takeSlot i body.row)).bump .rowEvictions).spanInto i body := by
  simp only [State.takeSpan, noSlot, s.rows.find?_free_eq_none_iff.2 full, oldest]

theorem takeSpan_of_refused (full : ∀ i : Fin 4, s.rows.slots[i] ≠ none)
    (nothing : evictable s.course s.rows = none) :
    s.takeSpan body = (s.setSticky .rowRefused).bump .rowRefusals := by
  simp only [State.takeSpan, noSlot, s.rows.find?_free_eq_none_iff.2 full, nothing]

end WithoutSlot

/-- Settles O25, by the three outcomes of the search for a slot; the station at the end mark has the row store,
the orders and the counters it had before. -/
theorem spanWithoutASlotTakesOne : Obligations.SpanWithoutASlotTakesOne := by
  intro body s hears mine notSetup noSlot
  refine ⟨_, exec_span_of_accepted hears mine notSetup, ?free, fun full => ⟨?evicted, ?refused⟩⟩
  case free =>
    intro i free first
    rw [takeSpan_of_free (s := s.endMark) noSlot free first]
    exact ⟨takenInto_spanInto rfl, fun j other => spanInto_slot_of_taken_ne rfl other,
      spanInto_counts _ i body .rowEvictions (by decide)⟩
  case evicted =>
    intro i x held unused unpinned lowest
    have may : MayEvict s i := ⟨by simp [held], unused, unpinned⟩
    have oldest : evictable s.course s.rows = some i := may.evictable_eq fun j other mayJ => by
      obtain ⟨z, hz⟩ := Option.ne_none_iff_exists'.1 mayJ.held
      rw [RowStore.seqAt_of_held held, RowStore.seqAt_of_held hz]
      exact lowest j z other hz mayJ.unused mayJ.unpinned
    rw [takeSpan_of_evictable (s := s.endMark) noSlot full oldest]
    refine ⟨takenInto_spanInto rfl, fun j z other hz => ?_, ?_⟩
    · exact (spanInto_slot_of_taken_ne rfl other).trans (RowStore.free_slot_ne held other hz)
    · exact (spanInto_counts _ i body .rowEvictions (by decide)).trans
        (State.count_bump (s.endMark.setRows _) .rowEvictions .rowEvictions)
  case refused =>
    intro taken
    have nothing : evictable s.course s.rows = none :=
      (evictable_eq_none_iff s).2 fun i may => (taken i).elim may.unused may.unpinned
    rw [takeSpan_of_refused (s := s.endMark) noSlot full nothing]
    refine ⟨?frame, ?flagged, ?flags, ?counts, ?counted⟩
    case frame =>
      exact ((endMark_frame s).then ((setSticky_frame _ .rowRefused).then (bump_frame _ .rowRefusals)
        (n := [.sticky, .counts]))).same
    case flagged => exact (State.isSticky_setSticky s.endMark .rowRefused .rowRefused).trans (by simp)
    case flags => exact StickyExcept.of_setSticky s.endMark .rowRefused
    case counts => exact CountsExcept.of_bump (s.endMark.setSticky .rowRefused) .rowRefusals
    case counted => exact State.count_bump _ .rowRefusals .rowRefusals

end Sys2Proof.Machine
end

section
/-! PROOF. Answers and the leaving entries of the outcome list (R79, R80, R82, R83, R84, R92). What a leaving
entry does neither reads nor changes the decision unit, so the list leaves one entry at a time. -/

namespace Sys2Proof.Machine

/-! ### A leaving entry does not read the decision unit -/

section BesideDecision
variable (s : State) (d : Decision)

theorem State.ite_setDec (c : Prop) [Decidable c] (t : State) :
    (if c then s else t).setDec d = if c then s.setDec d else t.setDec d :=
  apply_ite (State.setDec · d) c s t

theorem State.bump_setDec (k : Counter) : (s.setDec d).bump k = (s.bump k).setDec d := rfl

theorem State.offer_setDec (n : Notice) : (s.setDec d).offer n = (s.offer n).setDec d := by
  unfold State.offer
  rw [State.ite_setDec]
  rfl

theorem State.setCourseFlag_claimsDropped_setDec :
    (s.setDec d).setCourseFlag .claimsDropped = (s.setCourseFlag .claimsDropped).setDec d := by
  unfold State.setCourseFlag
  rw [State.ite_setDec]
  rfl

theorem State.formClaim_setDec (r : OpenRun) : (s.setDec d).formClaim r = (s.formClaim r).setDec d := by
  unfold State.formClaim
  rw [State.setDec_course]
  cases s.course.active with
  | none => rfl
  | some a =>
    simp only [State.bump_setDec, State.offer_setDec, State.setCourseFlag_claimsDropped_setDec,
      State.ite_setDec]
    rfl

theorem State.closeRun_setDec : (s.setDec d).closeRun = s.closeRun.setDec d := by
  unfold State.closeRun
  rw [State.setDec_claim]
  cases s.claim.run with
  | none => rfl
  | some r => exact State.formClaim_setDec (s.setClaim _) d r

/-- The station in which a result finds the open run: a run of a differing result has closed (R90). -/
def State.closeDiffering (s : State) (x : NeedleResult) : State :=
  match s.claim.run with
  | some r => if r.result = x then s else s.closeRun
  | none => s

/-- The open run takes in the result of needle `n`, and closes at the run limit and at the far edge of the
window (R89, R91). -/
def State.joinRun (s : State) (a : Active) (n : Nat) (x : NeedleResult) : State :=
  let r := extendRun s.claim.run n x
  let t := s.setClaim { s.claim with run := some r }
  if t.param (·.runLimit) 1 ≤ r.count ∨ n = a.farEdge then t.closeRun else t

theorem State.handRun_eq_joinRun (a : Active) (n : Nat) (x : NeedleResult) :
    s.handRun a n x = (s.closeDiffering x).joinRun a n x := rfl

theorem State.closeDiffering_setDec (x : NeedleResult) :
    (s.setDec d).closeDiffering x = (s.closeDiffering x).setDec d := by
  unfold State.closeDiffering
  rw [State.setDec_claim, State.closeRun_setDec]
  cases s.claim.run with
  | none => rfl
  | some r => exact (State.ite_setDec _ _ _ _).symm

theorem State.joinRun_setDec (a : Active) (n : Nat) (x : NeedleResult) :
    (s.setDec d).joinRun a n x = (s.joinRun a n x).setDec d := by
  have closes (y : ClaimUnit) : ((s.setDec d).setClaim y).closeRun = ((s.setClaim y).closeRun).setDec d :=
    State.closeRun_setDec (s.setClaim y) d
  simp only [State.joinRun, closes, State.ite_setDec]
  rfl

theorem State.handRun_setDec (a : Active) (n : Nat) (x : NeedleResult) :
    (s.setDec d).handRun a n x = (s.handRun a n x).setDec d := by
  simp only [State.handRun_eq_joinRun, State.closeDiffering_setDec, State.joinRun_setDec]

theorem State.announce_setDec (n : Nat) (x : NeedleResult) :
    (s.setDec d).announce n x = (s.announce n x).setDec d := by
  unfold State.announce
  rw [State.setDec_course]
  cases s.course.active with
  | none => rfl
  | some a =>
    simp only [State.handRun_setDec, State.ite_setDec]

theorem State.score_setDec (o : NeedleOutcome) (a : Action) :
    (s.setDec d).score o a = (s.score o a).setDec d := by
  cases o <;> rfl

end BesideDecision

/-! ### What one leaving entry does -/

/-- The station with a leaving entry counted (R83, R84). -/
def State.tallied (s : State) (e : Entry) (o : NeedleOutcome) : State :=
  if e.counting then s.score o e.action else s

/-- The station with the result of a leaving entry handed on (R80). -/
def State.told (s : State) (e : Entry) (o : NeedleOutcome) : State :=
  if e.counting then s.announce e.needle (resultOf o e.action) else s

theorem State.account_eq (s : State) (e : Entry) (o : NeedleOutcome) :
    s.account e o = if e.breakAfter = true then ((s.tallied e o).told e o).closeRun
      else (s.tallied e o).told e o := by
  unfold State.account State.told State.tallied
  cases e.counting <;> rfl

theorem State.account_setDec (s : State) (d : Decision) (e : Entry) (o : NeedleOutcome) :
    (s.setDec d).account e o = (s.account e o).setDec d := by
  have tallied : (s.setDec d).tallied e o = (s.tallied e o).setDec d := by
    simp only [State.tallied, State.score_setDec, State.ite_setDec]
  have told (t : State) : (t.setDec d).told e o = (t.told e o).setDec d := by
    simp only [State.told, State.announce_setDec, State.ite_setDec]
  simp only [State.account_eq, tallied, told, State.closeRun_setDec, State.ite_setDec]

@[simp] theorem State.account_dec (s : State) (e : Entry) (o : NeedleOutcome) :
    (s.account e o).dec = s.dec := by
  have outcomes : (s.account e o).dec.outcomes = s.dec.outcomes := (account_frame s e o).get .outcomes
  have float : (s.account e o).dec.float = s.dec.float := (account_frame s e o).get .float
  exact (congrArg₂ Decision.mk outcomes float :)

theorem State.tallied_frame (s : State) (e : Entry) (o : NeedleOutcome) :
    Frame [.tally, .counts] s (s.tallied e o) :=
  .ite (score_frame s o e.action) (.refl _ s)

@[simp] theorem State.tallied_active (s : State) (e : Entry) (o : NeedleOutcome) :
    (s.tallied e o).course.active = s.course.active := (State.tallied_frame s e o).get .active

theorem State.told_of_announce {s : State} {e : Entry} {a : Active} (o : NeedleOutcome)
    (running : s.course.active = some a) (counts : e.counting = true) (announces : a.order.announce = true) :
    s.told e o = s.handRun a e.needle (resultOf o e.action) := by
  simp only [State.told, State.announce, running, counts, announces, if_true]

theorem State.told_of_silent {s : State} {e : Entry} {a : Active} (o : NeedleOutcome)
    (running : s.course.active = some a) (silent : e.counting = false ∨ a.order.announce = false) :
    s.told e o = s := by
  obtain noCount | noAnnounce := silent
  · exact if_neg (by simp [noCount])
  · simp [State.told, State.announce, running, noAnnounce]

theorem State.told_of_noCourse {s : State} (e : Entry) (o : NeedleOutcome)
    (noCourse : s.course.active = none) : s.told e o = s := by
  simp [State.told, State.announce, noCourse]

theorem State.score_tally (s : State) (o : NeedleOutcome) (a : Action) :
    (s.score o a).course.tally = s.course.tally.add (resultOf o a) :=
  (countOutcome_frame (s.setTally _) o).get .tally

theorem State.count_score (s : State) (o : NeedleOutcome) (a : Action) (k : Counter) :
    (s.score o a).count k =
      if o.counter = some k then min (s.count k + 1) 65535 else s.count k := by
  unfold State.score State.countOutcome
  cases o.counter with
  | none => rfl
  | some j =>
    rw [State.count_bump]
    simp only [Option.some.injEq]
    rfl

theorem accounts_tallied (s : State) (e : Entry) (o : NeedleOutcome) : Accounts s (s.tallied e o) e o := by
  refine ⟨fun noCount => if_neg (by simp [noCount]), fun counts => ?_⟩
  rw [show s.tallied e o = s.score o e.action from if_pos counts]
  refine ⟨(score_frame s o e.action).same, ?tally, fun k => ?counters⟩
  case tally =>
    rw [State.score_tally]
    cases resultOf o e.action <;> rfl
  case counters =>
    rw [State.count_score]
    cases o <;> rfl

/-! ### Entries leave one by one -/

/-- The list that leaves is the one given, whatever stood in the station. -/
theorem leaveFrom_setDec_outcomes (l m : List Entry) (s : State) :
    leaveFrom l (s.setDec { s.dec with outcomes := m }) = leaveFrom l s := by
  induction l generalizing s with
  | nil => rfl
  | cons e es ih =>
    unfold leaveFrom
    cases e.outcome with
    | none => rfl
    | some o =>
      have beside := ih (s.account e o)
      rw [State.account_dec] at beside
      exact (congrArg (leaveFrom es) (State.account_setDec s _ e o)).trans beside

/-- The FINAL entries at the head have left (R80). -/
theorem leaveFrom_outcomes (l : List Entry) (s : State) :
    (leaveFrom l s).dec.outcomes = l.dropWhile fun e => e.outcome.isSome := by
  induction l generalizing s with
  | nil => rfl
  | cons e es ih =>
    unfold leaveFrom
    cases final : e.outcome with
    | none => simp [final]
    | some o => simpa [final] using ih (s.account e o)

theorem State.leave_of_nil {s : State} (empty : s.dec.outcomes = []) : s.leave = s := by
  unfold State.leave
  rw [empty, leaveFrom, ← empty]
  rfl

section Head
variable {s : State} {e : Entry} {es : List Entry} (list : s.dec.outcomes = e :: es)
include list

theorem State.leave_of_unresolved (unresolved : e.outcome = none) : s.leave = s := by
  unfold State.leave
  rw [list, leaveFrom, unresolved]
  change s.setDec { s.dec with outcomes := e :: es } = s
  rw [← list]
  rfl

theorem State.leave_of_final {o : NeedleOutcome} (final : e.outcome = some o) :
    s.leave = ((s.account e o).setDec { s.dec with outcomes := es }).leave := by
  have rest := leaveFrom_setDec_outcomes es es (s.account e o)
  rw [State.account_dec] at rest
  calc s.leave = leaveFrom es (s.account e o) := by
        unfold State.leave
        rw [list, leaveFrom, final]
    _ = ((s.account e o).setDec { s.dec with outcomes := es }).leave := rest.symm

end Head

/-- Settles O35, by what one leaving entry does and the list leaving one entry at a time. -/
theorem finalEntriesLeaveInOrder : Obligations.FinalEntriesLeaveInOrder := by
  refine ⟨fun s n o => ⟨?list, (answer_frame s n o).same, rfl⟩,
    fun s => ⟨State.leave_of_nil, fun e es list =>
      ⟨State.leave_of_unresolved list, fun o => State.leave_of_final list⟩⟩,
    fun s e o => ?entry, fun o a => ?table⟩
  case list => exact leaveFrom_outcomes _ _
  case entry =>
    refine ⟨s.tallied e o, (s.tallied e o).told e o, accounts_tallied s e o, ?_, ?_, ?_,
      State.account_eq s e o⟩
    · exact fun a running => State.told_of_announce o ((State.tallied_active s e o).trans running)
    · exact fun a running => State.told_of_silent o ((State.tallied_active s e o).trans running)
    · exact fun noCourse => State.told_of_noCourse e o ((State.tallied_active s e o).trans noCourse)
  case table =>
    cases o with
    | done => cases a <;> rfl
    | lost | fault | guarded | disabled | rail | ended => rfl

end Sys2Proof.Machine
end

section
/-! PROOF. A head request judged at its hand-over (R110, R111, R112, R116). One equation of `State.request`
per check of the table, beside what an answer, a replaced pending request and a started fire make of the
state. -/

namespace Sys2Proof.Machine

/-! ### The fire deadline -/

theorem State.fireTime_of_setup {s : State} {r : SetupRec} (taken : s.setup? = some r) :
    s.fireTime = r.fireDeadline * 10 := by
  simp [State.fireTime, State.param, taken]

/-! ### What an answer, a replacement and a fire do -/

/-- An answer entered in the list says so and changes nothing else (R79). -/
theorem State.resolve_answers (s : State) (n : Nat) (o : NeedleOutcome) :
    SameExcept [.outcomes] s (s.resolve n o) ∧
      (s.resolve n o).dec.outcomes = s.dec.outcomes.map (resolveEntry n o) :=
  ⟨(resolve_frame s n o).same, rfl⟩

@[simp] theorem State.replaceWaiting_waiting (s : State) (q : Request) :
    (s.replaceWaiting q).head.waiting = some q := by
  unfold State.replaceWaiting
  split <;> rfl

theorem State.replaceWaiting_outcomes_of_none {s : State} (q : Request) (alone : s.head.waiting = none) :
    (s.replaceWaiting q).dec.outcomes = s.dec.outcomes := by
  simp [State.replaceWaiting, alone]

/-- The request that is replaced is answered LOST (R116). -/
theorem State.replaceWaiting_outcomes_of_some {s : State} (q : Request) {old : Request}
    (waits : s.head.waiting = some old) :
    (s.replaceWaiting q).dec.outcomes = s.dec.outcomes.map (resolveEntry old.needle .lost) := by
  simp [State.replaceWaiting, waits, State.resolve]

theorem State.startFire_head (s : State) (n : Nat) (h : Height) :
    (s.startFire n h).head = { s.head with
      height := none, code := h,
      fire := some { target := h, needle := some n, deadline := s.fireTime } } := rfl

/-- A fire that starts is counted (R112). -/
theorem State.count_startFire (s : State) (n : Nat) (h : Height) :
    (s.startFire n h).count .firesStarted = min (s.count .firesStarted + 1) 65535 :=
  State.count_bump _ .firesStarted .firesStarted

theorem CountsExcept.of_startFire (s : State) (n : Nat) (h : Height) :
    CountsExcept [.firesStarted] s (s.startFire n h) := CountsExcept.of_bump _ _

/-! ### The checks of R110 -/

section Checks
variable {s : State} (n : Nat) (h : Height) (travel : Dir)

theorem State.request_of_disabled (disabled : s.head.disabled = true) :
    s.request n h travel = s.resolve n .disabled := by
  simp [State.request, disabled]

theorem State.request_of_railLow (enabled : ¬ s.head.disabled = true) (low : s.head.railGood = false) :
    s.request n h travel = s.resolve n (if s.head.height = some h then .done else .rail) := by
  rw [apply_ite (s.resolve n)]
  simp [State.request, enabled, low]

section RailGood
variable (enabled : ¬ s.head.disabled = true) (good : ¬ s.head.railGood = false)
include enabled good

theorem State.request_of_firing (firing : s.head.fire ≠ none) :
    s.request n h travel = s.replaceWaiting { needle := n, target := h, travel := travel } := by
  simp [State.request, enabled, good, Option.isSome_iff_ne_none, firing]

theorem State.request_of_atHeight (idle : ¬ s.head.fire ≠ none) (there : s.head.height = some h) :
    s.request n h travel = s.resolve n .done := by
  simp_all [State.request]

theorem State.request_of_elsewhere (idle : ¬ s.head.fire ≠ none) (elsewhere : ¬ s.head.height = some h) :
    s.request n h travel = s.startFire n h := by
  simp_all [State.request]

end RailGood
end Checks

/-- Settles O38, by the checks of R110 in the order of the table. -/
theorem requestIsJudgedByTheTable : Obligations.RequestIsJudgedByTheTable := by
  refine ⟨fun _ _ => State.fireTime_of_setup, fun s n h travel => ?_⟩
  dsimp only
  split_ifs with disabled low there firing there
  · rw [State.request_of_disabled n h travel disabled]
    exact s.resolve_answers n .disabled
  · rw [State.request_of_railLow n h travel disabled low, if_pos there]
    exact s.resolve_answers n .done
  · rw [State.request_of_railLow n h travel disabled low, if_neg there]
    exact s.resolve_answers n .rail
  · rw [State.request_of_firing n h travel disabled low firing]
    exact ⟨(replaceWaiting_frame s _).same, s.replaceWaiting_waiting _,
      State.replaceWaiting_outcomes_of_none _, fun _ => State.replaceWaiting_outcomes_of_some _⟩
  · rw [State.request_of_atHeight n h travel disabled low firing there]
    exact s.resolve_answers n .done
  · rw [State.request_of_elsewhere n h travel disabled low firing there]
    exact ⟨(startFire_frame s n h).same, by simp [State.startFire_head], by simp [State.startFire_head],
      by simp [State.startFire_head], s.count_startFire n h, .of_startFire s n h⟩

end Sys2Proof.Machine
end

section
/-! SUPPORT. The carrier unit's share of a notice: who is heard, what a record and the transmit list hold after
a change, and when a take is denied (R128, R130, R135, R156). -/

namespace Sys2Proof.Machine

/-! ### A part that a frame leaves out -/

theorem Frame.carrier_eq {l : List Part} {s t : State} (h : Frame l s t) (c : Fin 16)
    (hl : Part.carrierTable ∉ l := by decide) : t.carrier c = s.carrier c := by
  have table : t.carr.table = s.carr.table := h.get .carrierTable hl
  simp only [State.carrier, table]

theorem Frame.count_eq {l : List Part} {s t : State} (h : Frame l s t) (k : Counter)
    (hl : Part.counts ∉ l := by decide) : t.count k = s.count k := by
  have counts : t.counts = s.counts := h.get .counts hl
  simp only [State.count, counts]

/-! ### Counters -/

theorem CountsExcept.refl (l : List Counter) (s : State) : CountsExcept l s s := fun _ _ => rfl

theorem CountsExcept.ite {l : List Counter} {s t u : State} {c : Prop} [Decidable c]
    (h : CountsExcept l s t) (k : CountsExcept l s u) : CountsExcept l s (if c then t else u) := by
  split <;> assumption

theorem CountsExcept.then {l m : List Counter} {s t u : State} (h : CountsExcept l s t)
    (k : CountsExcept m t u) : CountsExcept (l ++ m) s u := fun j hj => by
  rw [List.mem_append, not_or] at hj
  exact (k j hj.2).trans (h j hj.1)

/-! ### A carrier notice that gets through -/

/-- A notice that is heard from another station is taken at its end mark (R151, R160). -/
theorem State.fromPeer_of_hears {s : State} {q : StationNo} (hears : s.hears = true)
    (other : q ≠ s.ctl.station) (f : State → State) : s.fromPeer q f = f s.endMark :=
  (State.heard_of_hears hears _).trans (if_neg other)

/-- A carrier number up to 15 names its carrier (R128). -/
theorem State.withCarrier_of_val {k : Byte} {c : Fin 16} (named : k.toNat = c.val) (s : State)
    (f : Fin 16 → State) : s.withCarrier k f = f c := by
  have decoded : decodeCarrier k = some c := by
    simp [decodeCarrier, named]
  simp [State.withCarrier, decoded]

/-! ### The carrier table -/

theorem State.carrier_setCarrier (s : State) (c d : Fin 16) (r : CarrierRec) :
    (s.setCarrier c r).carrier d = if c = d then r else s.carrier d := by
  simp [State.carrier, State.setCarrier, Vector.getElem_set, Fin.ext_iff]

/-- A record replaced by itself is no change. -/
theorem State.setCarrier_self (s : State) (c : Fin 16) : s.setCarrier c (s.carrier c) = s := by
  have table : s.carr.table.set c.val (s.carrier c) = s.carr.table := Vector.set_getElem_self c.isLt
  simp only [State.setCarrier, table]
  rfl

/-! ### The transmit list -/

theorem classOf_eq_cls (n : Notice) : classOf n = n.cls := by cases n <;> rfl

/-- The place a joining notice is given is the one of R156. -/
theorem joined_joinList (n : Notice) (l : List Notice) : Joined n l (joinList n l) := by
  induction l with
  | nil => exact ⟨[], [], rfl, rfl, by simp, by simp⟩
  | cons m ms ih =>
    unfold joinList
    split_ifs with before
    · refine ⟨[], m :: ms, rfl, rfl, by simp, fun x hx => ?_⟩
      obtain rfl : m = x := by simpa using hx
      simpa only [classOf_eq_cls] using before
    · obtain ⟨l, r, rfl, joined, lower, higher⟩ := ih
      refine ⟨m :: l, r, rfl, by rw [joined]; rfl, fun x hx => ?_, higher⟩
      obtain rfl | hx := List.mem_cons.1 hx
      · simpa only [classOf_eq_cls] using Nat.le_of_not_lt before
      · exact lower x hx

/-! ### Course flags -/

/-- A course flag that is a stop cause raises it when it was clear (R54). -/
theorem flagged_setCourseFlag (s : State) {f : CourseFlag} {c : StopCause} (cause : f.cause = some c) :
    Flagged s (s.setCourseFlag f) f c := by
  unfold State.setCourseFlag
  split_ifs with already
  · exact ⟨already, fun clear => absurd already (by simp [clear])⟩
  · simp only [State.raiseFor, cause]
    refine ⟨?_, fun _ => ⟨by simp [State.isRecorded_raise], rfl⟩⟩
    simp [State.isCourseFlag, State.raise, getLsbD_setBit _ _ _ f.idx_lt]

end Sys2Proof.Machine
end

section
/-! PROOF. The standby take of an order that enters STANDBY (R134, R156). -/

namespace Sys2Proof.Machine

/-- The station with this standby take. -/
def State.putStandbyTake (s : State) (x : Option Take) : State :=
  s.setCarr { s.carr with standbyTake := x }

section Table
variable {s : State} {c : Fin 16} {pass : Word16}

theorem reserved_any_iff {r : Option Reservation} :
    r.any (fun x => x.pass == pass) = true ↔ ∃ v, r = some ⟨pass, v⟩ := by
  cases r with
  | none => simp
  | some x => cases x; simp

theorem list_any_take_iff {l : List Notice} :
    l.any (fun n => n == .take pass c) = true ↔ .take pass c ∈ l := by
  simp

/-! ### The table of R134, line by line -/

theorem State.makeStandbyTake_of_own (own : (s.carrier c).reserved = some ⟨pass, s.ctl.station⟩) :
    s.makeStandbyTake c pass = s.putStandbyTake (some ⟨c, pass, .made⟩) := if_pos own

section NotOwn
variable (notOwn : (s.carrier c).reserved ≠ some ⟨pass, s.ctl.station⟩)
include notOwn

theorem State.makeStandbyTake_of_waits (waits : .take pass c ∈ s.line.list) :
    s.makeStandbyTake c pass = s.putStandbyTake (some ⟨c, pass, .queued⟩) :=
  (if_neg notOwn).trans (if_pos (list_any_take_iff.2 waits))

variable (silent : .take pass c ∉ s.line.list)
include silent

theorem State.makeStandbyTake_of_rival (rival : ∃ v, (s.carrier c).reserved = some ⟨pass, v⟩) :
    s.makeStandbyTake c pass = s.putStandbyTake (some ⟨c, pass, .denied⟩) :=
  (if_neg notOwn).trans ((if_neg (mt list_any_take_iff.1 silent)).trans (if_pos (reserved_any_iff.2 rival)))

end NotOwn

section Unreserved
variable (unreserved : ∀ v, (s.carrier c).reserved ≠ some ⟨pass, v⟩)
  (silent : .take pass c ∉ s.line.list)
include unreserved silent

/-- A new TAKE is placed, and the standby take goes by the room there is for it. -/
theorem State.makeStandbyTake_of_unreserved :
    s.makeStandbyTake c pass = (s.offer (.take pass c)).putStandbyTake
      (some ⟨c, pass, if s.hasRoom then .queued else .denied⟩) := by
  have noPass : ¬ (s.carrier c).reserved.any (fun x => x.pass == pass) = true :=
    fun any => (reserved_any_iff.1 any).elim unreserved
  refine (if_neg (unreserved _)).trans ((if_neg (mt list_any_take_iff.1 silent)).trans
    ((if_neg noPass).trans ?_))
  cases s.hasRoom <;> rfl

theorem State.makeStandbyTake_of_room (room : s.line.list.length < 16) :
    s.makeStandbyTake c pass =
      (s.setLine { s.line with list := joinList (.take pass c) s.line.list }).putStandbyTake
        (some ⟨c, pass, .queued⟩) := by
  have hasRoom : s.hasRoom = true := decide_eq_true room
  rw [makeStandbyTake_of_unreserved unreserved silent, s.offer_room _ room, if_pos hasRoom]

theorem State.makeStandbyTake_of_full (full : 16 ≤ s.line.list.length) :
    s.makeStandbyTake c pass = (s.bump .takeDrops).putStandbyTake (some ⟨c, pass, .denied⟩) := by
  have noRoom : s.hasRoom = false := decide_eq_false (Nat.not_lt.2 full)
  rw [makeStandbyTake_of_unreserved unreserved silent, s.offer_full _ full, noRoom]
  rfl

end Unreserved
end Table

/-! ### Which orders make one -/

theorem State.standbyTakeFor_of_without {s : State} {o : Order}
    (without : o.carrier = none ∨ o.source ≠ .own) : s.standbyTakeFor o = s.putStandbyTake none := by
  unfold State.standbyTakeFor
  split
  · simp_all
  · rfl

theorem State.standbyTakeFor_of_self {s : State} {o : Order} {c : Fin 16} (carrier : o.carrier = some c)
    (own : o.source = .own) : s.standbyTakeFor o = s.makeStandbyTake c o.pass := by
  simp only [State.standbyTakeFor, carrier, own]

/-- Settles O46, by the lines of the table. -/
theorem standbyTakeFollowsTheTable : Obligations.StandbyTakeFollowsTheTable := by
  intro s o
  refine ⟨fun without => ?_, fun c carrier own => ⟨(standbyTakeFor_frame s o).same, ?_⟩⟩
  · rw [State.standbyTakeFor_of_without without]
    exact ⟨rfl, (setCarr_takes_frame s none).same⟩
  · rw [State.standbyTakeFor_of_self carrier own]
    refine ⟨fun reserved => ?_, fun notOwn waits => ?_, fun v rival other silent => ?_,
      fun unreserved silent room => ?_, fun unreserved silent full => ?_⟩
    · rw [State.makeStandbyTake_of_own reserved]
      exact ⟨rfl, rfl⟩
    · rw [State.makeStandbyTake_of_waits notOwn waits]
      exact ⟨rfl, rfl⟩
    · rw [State.makeStandbyTake_of_rival (by simp [rival, other]) silent ⟨v, rival⟩]
      exact ⟨rfl, rfl⟩
    · rw [State.makeStandbyTake_of_room unreserved silent room]
      exact ⟨rfl, joined_joinList _ _, rfl⟩
    · rw [State.makeStandbyTake_of_full unreserved silent full]
      exact ⟨rfl, rfl, .of_bump s .takeDrops, s.count_bump .takeDrops .takeDrops⟩

end Sys2Proof.Machine
end

section
/-! PROOF. A TAKE heard from another station (R130, R135, R139, R157): an own TAKE that waits for the same
carrier and pass is withdrawn, and then the reservation is judged. -/

namespace Sys2Proof.Machine

/-! ### An own TAKE that is lost -/

theorem State.judgeTake_of_denied {s : State} {cc : CourseCarrier} (course : s.carr.course = some cc)
    (own : cc.source = .own) (waiting : cc.state = .waiting) (denied : cc.take = some .denied)
    (idle : s.carr.pin.engagingForCourse = false) : s.judgeTake = s.deny cc := by
  simp [State.judgeTake, State.judged, course, own, waiting, denied, idle]

/-- Without a waiting carrier whose take is DENIED nothing is judged, nor with its engagement in flight. -/
theorem State.judgeTake_of_undenied {s : State}
    (undenied : ∀ cc, s.carr.course = some cc → cc.state = .waiting → cc.take = some .denied →
      s.carr.pin.engagingForCourse = true) : s.judgeTake = s := by
  unfold State.judgeTake State.judged
  cases course : s.carr.course with
  | none => rfl
  | some cc =>
    by_cases waits : cc.source = .own ∧ cc.state = .waiting
    · have inFlight := undenied cc course waits.2
      simp only [waits, and_self, if_true]
      exact if_neg fun denied => by simp [inFlight denied.1] at denied
    · simp only [waits, if_false]

/-- The course carrier with its take DENIED, where that is a take for this carrier and pass (R135). -/
def CourseCarrier.denyTake (cc : CourseCarrier) (c : Fin 16) (pass : Word16) : CourseCarrier :=
  if cc.carrier = c ∧ cc.pass = pass then { cc with take := cc.take.map fun _ => .denied } else cc

theorem CourseCarrier.denyTake_of_other {cc : CourseCarrier} {c : Fin 16} {pass : Word16}
    (other : cc.carrier ≠ c ∨ cc.pass ≠ pass ∨ cc.take = none) : cc.denyTake c pass = cc := by
  unfold CourseCarrier.denyTake
  split_ifs with its
  · have untaken : cc.take = none := by tauto
    have kept : cc.take.map (fun _ => TakeState.denied) = cc.take := by rw [untaken]; rfl
    rw [kept]
  · rfl

theorem CourseCarrier.denyTake_of_its {cc : CourseCarrier} {c : Fin 16} {pass : Word16}
    (carrier : cc.carrier = c) (itsPass : cc.pass = pass) (take : cc.take ≠ none) :
    cc.denyTake c pass = { cc with take := some .denied } := by
  obtain ⟨x, hx⟩ := Option.ne_none_iff_exists'.1 take
  simp [CourseCarrier.denyTake, carrier, itsPass, hx]

section Lost
variable (s : State) (c : Fin 16) (pass : Word16)

theorem State.changeTakes_denied_course :
    (s.changeTakes c pass fun _ => .denied).carr.course = s.carr.course.map (·.denyTake c pass) := rfl

/-- The standby take for the carrier and pass is DENIED, whatever becomes of the course. -/
theorem State.loseTake_standbyTake :
    (s.loseTake c pass).carr.standbyTake = s.carr.standbyTake.map fun y =>
      if y.carrier = c ∧ y.pass = pass then { y with state := .denied } else y :=
  (judgeTake_frame (s.changeTakes c pass fun _ => .denied)).get .standbyTake

variable {s c pass}

theorem State.loseTake_of_denied {cc : CourseCarrier} (course : s.carr.course = some cc)
    (own : (cc.denyTake c pass).source = .own) (waiting : (cc.denyTake c pass).state = .waiting)
    (denied : (cc.denyTake c pass).take = some .denied) (idle : s.carr.pin.engagingForCourse = false) :
    s.loseTake c pass = (s.changeTakes c pass fun _ => .denied).deny (cc.denyTake c pass) :=
  State.judgeTake_of_denied (by rw [changeTakes_denied_course, course]; rfl) own waiting denied idle

theorem State.loseTake_of_undenied {cc : CourseCarrier} (course : s.carr.course = some cc)
    (undenied : (cc.denyTake c pass).state = .waiting → (cc.denyTake c pass).take = some .denied →
      s.carr.pin.engagingForCourse = true) :
    (s.loseTake c pass).carr.course = some (cc.denyTake c pass) ∧
    (s.loseTake c pass).course.flags = s.course.flags := by
  have changed : (s.changeTakes c pass fun _ => .denied).carr.course = some (cc.denyTake c pass) := by
    rw [changeTakes_denied_course, course]
    rfl
  have kept : s.loseTake c pass = s.changeTakes c pass fun _ => .denied := by
    refine State.judgeTake_of_undenied fun dd hdd => ?_
    obtain rfl := Option.some.inj (changed.symm.trans hdd)
    exact undenied
  exact ⟨by rw [kept, changed], by rw [kept]; rfl⟩

theorem State.loseTake_of_noCourse (noCourse : s.carr.course = none) :
    (s.loseTake c pass).carr.course = none ∧ (s.loseTake c pass).course.flags = s.course.flags := by
  have changed : (s.changeTakes c pass fun _ => .denied).carr.course = none := by
    rw [changeTakes_denied_course, noCourse]
    rfl
  have kept : s.loseTake c pass = s.changeTakes c pass fun _ => .denied :=
    State.judgeTake_of_undenied (by simp [changed])
  exact ⟨by rw [kept, changed], by rw [kept]; rfl⟩

end Lost

theorem deny_spec (s : State) (cc : CourseCarrier) :
    (s.deny cc).carr.course = some { cc with state := .denied } ∧
    Flagged s (s.deny cc) .carrierDenied .carrierDenied :=
  ⟨(setCourseFlag_frame (s.setCourseCarrier _) .carrierDenied).get .courseCarrier,
    flagged_setCourseFlag (s.setCourseCarrier _) rfl⟩

theorem takeLost_loseTake (s : State) (c : Fin 16) (pass : Word16) :
    TakeLost s (s.loseTake c pass) c pass := by
  refine ⟨fun y standby => ?_, fun standby => ?_, State.loseTake_of_noCourse,
    fun cc course other undenied => ?_, fun cc course carrier itsPass take => ?_⟩
  · rw [State.loseTake_standbyTake, standby]
    rfl
  · rw [State.loseTake_standbyTake, standby]
    rfl
  · have kept := State.loseTake_of_undenied (c := c) (pass := pass) course
    rw [CourseCarrier.denyTake_of_other other] at kept
    exact kept fun waiting denied => absurd denied (undenied.resolve_left (not_not.2 waiting))
  · have its := CourseCarrier.denyTake_of_its carrier itsPass take
    refine ⟨fun own waiting idle => ?_, fun stays => ?_⟩
    · rw [State.loseTake_of_denied course (by rwa [its]) (by rwa [its]) (by rw [its]) idle, its]
      exact deny_spec (s.changeTakes c pass fun _ => .denied) _
    · have kept := State.loseTake_of_undenied (c := c) (pass := pass) course
      rw [its] at kept
      exact kept fun waiting _ => stays.resolve_left (not_not.2 waiting)

/-- What the loss of an own TAKE speaks of. -/
def lossParts : List Part := [.pin, .standbyTake, .courseCarrier, .courseFlags, .causes, .latch]

/-- A TAKE is lost in the same way when what comes before and after leaves those parts alone. -/
theorem TakeLost.of_frames {l m : List Part} {s u v t : State} {c : Fin 16} {pass : Word16}
    (before : Frame l s u) (lost : TakeLost u v c pass) (after : Frame m v t)
    (hl : ∀ p ∈ lossParts, p ∉ l := by decide) (hm : ∀ p ∈ lossParts, p ∉ m := by decide) :
    TakeLost s t c pass := by
  have pin : u.carr.pin = s.carr.pin := before.get .pin (hl _ (by decide))
  have standby : u.carr.standbyTake = s.carr.standbyTake := before.get .standbyTake (hl _ (by decide))
  have course : u.carr.course = s.carr.course := before.get .courseCarrier (hl _ (by decide))
  have flags : u.course.flags = s.course.flags := before.get .courseFlags (hl _ (by decide))
  have standby' : t.carr.standbyTake = v.carr.standbyTake := after.get .standbyTake (hm _ (by decide))
  have course' : t.carr.course = v.carr.course := after.get .courseCarrier (hm _ (by decide))
  have flags' : t.course.flags = v.course.flags := after.get .courseFlags (hm _ (by decide))
  have causes' : t.ctl.causes = v.ctl.causes := after.get .causes (hm _ (by decide))
  have latch' : t.ctl.latch = v.ctl.latch := after.get .latch (hm _ (by decide))
  simpa only [TakeLost, Flagged, State.isCourseFlag, State.isRecorded, pin, standby, course, flags,
    standby', course', flags', causes', latch'] using lost

/-! ### An own TAKE that waits is withdrawn -/

theorem State.takeWaits_iff (s : State) (c : Fin 16) (pass : Word16) :
    s.takeWaits c pass = true ↔
      Notice.take pass c ∈ s.line.list ∧ s.line.sending ≠ some (.take pass c) := by
  rw [State.takeWaits, Bool.and_eq_true, list_any_take_iff, bne_iff_ne]

/-- The station with its own waiting TAKE withdrawn (R130). -/
def State.withdraw (s : State) (c : Fin 16) (pass : Word16) : State :=
  ((s.setLine { s.line with list := s.line.list.filter fun n => n != .take pass c }).bump
    .takesWithdrawn).loseTake c pass

theorem State.takeTake_eq (s : State) (q : StationNo) (pass : Word16) (c : Fin 16) :
    s.takeTake q pass c =
      (if s.takeWaits c pass then s.withdraw c pass else s).reserve q pass c := by
  rw [apply_ite (State.reserve · q pass c)]
  rfl

/-- What the withdrawal of an own TAKE changes. -/
def withdrawParts : List Part :=
  [.transmitList, .counts, .standbyTake, .courseCarrier, .courseFlags, .causes, .latch]

section Withdraw
variable (s : State) (c : Fin 16) (pass : Word16)

theorem withdraw_frame : Frame withdrawParts s (s.withdraw c pass) :=
  ((setLine_list_frame s _).then (bump_frame _ .takesWithdrawn) (n := [.transmitList, .counts])).then
    (loseTake_frame _ c pass)

/-- Only the TAKE withdrawn leaves the list. -/
theorem State.withdraw_list :
    (s.withdraw c pass).line.list = s.line.list.filter fun n => decide (n ≠ .take pass c) := by
  refine ((loseTake_frame _ c pass).get .transmitList).trans ?_
  simp [State.bump, bne, beq_eq_decide]

theorem State.count_withdraw (k : Counter) :
    (s.withdraw c pass).count k = (s.bump .takesWithdrawn).count k :=
  (loseTake_frame _ c pass).count_eq k

theorem withdraw_counts : CountsExcept [.takesWithdrawn] s (s.withdraw c pass) := fun k hk =>
  (s.count_withdraw c pass k).trans (CountsExcept.of_bump s .takesWithdrawn k hk)

theorem takeLost_withdraw : TakeLost s (s.withdraw c pass) c pass :=
  .of_frames ((setLine_list_frame s _).then (bump_frame _ .takesWithdrawn) (n := [.transmitList, .counts]))
    (takeLost_loseTake _ c pass) (.refl [] _)

end Withdraw

/-! ### The reservation is judged -/

section Reserve
variable {s : State} {q : StationNo} {pass : Word16} {c : Fin 16}

/-- Another station has the reservation for the pass (R130). -/
def Rival (s : State) (q : StationNo) (pass : Word16) (c : Fin 16) : Prop :=
  ∃ v, (s.carrier c).reserved = some ⟨pass, v⟩ ∧ v ≠ q

theorem State.reserve_of_rival (rival : Rival s q pass c) :
    s.reserve q pass c = s.bump .carrierConflicts := by
  obtain ⟨v, reserved, other⟩ := rival
  simp [State.reserve, reserved, other]

/-- With no rival the reservation is the sender's; where it was so before, that is no change. -/
theorem State.reserve_of_unrivalled (unrivalled : ¬ Rival s q pass c) :
    s.reserve q pass c = s.setCarrier c { s.carrier c with reserved := some ⟨pass, q⟩ } := by
  unfold State.reserve
  cases reserved : (s.carrier c).reserved with
  | none => rfl
  | some r =>
    obtain ⟨p, v⟩ := r
    by_cases same : p = pass
    · subst same
      obtain rfl : v = q := by
        by_contra other
        exact unrivalled ⟨v, reserved, other⟩
      have unchanged : { s.carrier c with reserved := some ⟨p, v⟩ } = s.carrier c := by
        rw [← reserved]
      simp [unchanged, State.setCarrier_self]
    · simp [same]

variable (s q pass c)

/-- Only the reservation of the carrier named, and the count of conflicts, go by the TAKE heard (R130). -/
theorem reserve_spec :
    ((s.reserve q pass c).carrier c).place = (s.carrier c).place ∧
    (∀ d, d ≠ c → (s.reserve q pass c).carrier d = s.carrier d) ∧
    (Rival s q pass c → ((s.reserve q pass c).carrier c).reserved = (s.carrier c).reserved ∧
      (s.reserve q pass c).count .carrierConflicts = min (s.count .carrierConflicts + 1) 65535) ∧
    (¬ Rival s q pass c → ((s.reserve q pass c).carrier c).reserved = some ⟨pass, q⟩ ∧
      (s.reserve q pass c).count .carrierConflicts = s.count .carrierConflicts) := by
  by_cases rival : Rival s q pass c
  · rw [State.reserve_of_rival rival]
    exact ⟨rfl, fun _ _ => rfl, fun _ => ⟨rfl, s.count_bump _ _⟩, absurd rival⟩
  · rw [State.reserve_of_unrivalled rival]
    refine ⟨?_, fun d other => ?_, fun h => absurd h rival, fun _ => ⟨?_, rfl⟩⟩
    · simp [State.carrier_setCarrier]
    · simp [State.carrier_setCarrier, other.symm]
    · simp [State.carrier_setCarrier]

theorem reserve_counts : CountsExcept [.carrierConflicts] s (s.reserve q pass c) := by
  by_cases rival : Rival s q pass c
  · rw [State.reserve_of_rival rival]
    exact .of_bump s .carrierConflicts
  · rw [State.reserve_of_unrivalled rival]
    exact fun _ _ => rfl

end Reserve

/-! ### The TAKE heard -/

theorem exec_take_of_hears {q : StationNo} {pass : Word16} {k : Byte} {c : Fin 16} {s : State}
    (other : q ≠ s.ctl.station) (named : k.toNat = c.val) (hears : s.hears = true) :
    exec (.take q pass k) s = .next (s.endMark.takeTake q pass c) :=
  congrArg Host.Outcome.next
    ((State.fromPeer_of_hears hears other _).trans (State.withCarrier_of_val named _ _))

/-- Settles O43: the TAKE heard first withdraws an own one that waits, and is then judged by the reservation,
which the withdrawal leaves alone. -/
theorem takeReservesTheCarrier : Obligations.TakeReservesTheCarrier := by
  intro q pass k c s other named hears
  refine ⟨_, exec_take_of_hears other named hears, ?_⟩
  rw [State.takeTake_eq]
  set w := if s.endMark.takeWaits c pass then s.endMark.withdraw c pass else s.endMark
  have records (d : Fin 16) : w.carrier d = s.carrier d :=
    (Frame.ite (withdraw_frame s.endMark c pass) (.refl _ s.endMark)).carrier_eq d
  have conflicts : w.count .carrierConflicts = s.count .carrierConflicts :=
    CountsExcept.ite (withdraw_counts s.endMark c pass) (.refl _ s.endMark) .carrierConflicts (by decide)
  obtain ⟨place, others, rival, unrivalled⟩ := reserve_spec w q pass c
  simp only [Rival, records, conflicts] at place others rival unrivalled
  refine ⟨place, others, ⟨rival, unrivalled⟩, fun silent => ?_, fun waits => ?_⟩
  · have still : w = s.endMark := if_neg (mt (s.endMark.takeWaits_iff c pass).1 silent)
    rw [still]
    exact ⟨((endMark_frame s).then (reserve_frame _ q pass c)).same, reserve_counts s.endMark q pass c⟩
  · have withdrawn : w = s.endMark.withdraw c pass := if_pos ((s.endMark.takeWaits_iff c pass).2 waits)
    have list : (w.reserve q pass c).line.list = w.line.list :=
      (reserve_frame w q pass c).get .transmitList
    rw [withdrawn] at list ⊢
    refine ⟨?frame, ?list, ?counts, ?counted, ?lost⟩
    case frame =>
      exact (((endMark_frame s).then (withdraw_frame _ c pass) (n := noticeParts ++ withdrawParts)).then
        (reserve_frame _ q pass c)).same
    case list => exact list.trans (s.endMark.withdraw_list c pass)
    case counts => exact (withdraw_counts s.endMark c pass).then (reserve_counts _ q pass c)
    case counted =>
      exact (reserve_counts _ q pass c .takesWithdrawn (by decide)).trans
        ((s.endMark.count_withdraw c pass _).trans (s.endMark.count_bump _ _))
    case lost =>
      exact .of_frames (endMark_frame s) (takeLost_withdraw _ c pass) (reserve_frame _ q pass c)

end Sys2Proof.Machine
end

section
/-! PROOF. A SETUP (R128, R162, R166, R173, R178, R179, R180): the first bad field against the ranges of the
fields, what an acceptance makes of the station, and the three ends a SETUP can come to. -/

namespace Sys2Proof.Machine

/-! ### An addressed notice -/

theorem State.ifAddressed_of_addressed {s : State} {q : BitVec 5} (hears : s.hears = true)
    (mine : s.addressed q = true) (f : State → State) : s.ifAddressed q f = f s.endMark :=
  (State.heard_of_hears hears _).trans (if_pos mine)

/-- An addressed notice for another station is at most heard (R162). -/
theorem ifAddressed_frame_of_elsewhere {s : State} {q : BitVec 5} (elsewhere : s.addressed q = false)
    (f : State → State) : Frame noticeParts s (s.ifAddressed q f) := by
  have ignored : (if s.endMark.addressed q then f s.endMark else s.endMark) = s.endMark :=
    if_neg (Bool.eq_false_iff.1 elsewhere)
  refine heard_frame s _ [] noticeParts ?_ (by simp) fun _ => id
  rw [ignored]
  exact .refl [] _

/-! ### The bytes of the body -/

theorem toNat_byteAt (l : List Byte) (k : Nat) : (byteAt l k).toNat = (l[k]?.getD 0).toNat := by
  rw [byteAt, List.getD_eq_getElem?_getD]

/-- A byte put below a field (R152). -/
theorem toNat_append_byte {n : Nat} (x : BitVec n) (y : Byte) : (x ++ y).toNat = 256 * x.toNat + y.toNat := by
  rw [BitVec.toNat_append, ← Nat.shiftLeft_add_eq_or_of_lt y.isLt, Nat.shiftLeft_eq, Nat.mul_comm]

theorem toNat_word2 (l : List Byte) (k : Nat) :
    (word2 l k).toNat = 256 * (byteAt l k).toNat + (byteAt l (k + 1)).toNat :=
  toNat_append_byte _ _

theorem toNat_word3 (l : List Byte) (k : Nat) :
    (word3 l k).toNat =
      65536 * (byteAt l k).toNat + (256 * (byteAt l (k + 1)).toNat + (byteAt l (k + 2)).toNat) := by
  have upper := toNat_append_byte (byteAt l k) (byteAt l (k + 1))
  have whole := toNat_append_byte (byteAt l k ++ byteAt l (k + 1)) (byteAt l (k + 2))
  rw [word3]
  omega

/-- The reader of a SETUP body follows the table of R173. -/
theorem setupReads_readSetup (l : List Byte) : SetupReads l (readSetup l) := by
  simp only [SetupReads, readSetup, toNat_word2, toNat_word3, BitVec.testBit_toNat, ← toNat_byteAt,
    and_self]

/-- The record of a body takes its fields one by one. -/
theorem recordOf_record (b : SetupBody) (owner : Bool) : RecordOf b owner (SetupBody.record b owner) := by
  refine ⟨rfl, rfl, rfl, rfl, rfl, rfl, ?rounding, ?unheard, ?rowPolicy, rfl, rfl, rfl, rfl, rfl, rfl,
    fun own => if_pos own, fun none => if_neg (Bool.eq_false_iff.1 none), rfl, rfl⟩
  case rounding => cases h : b.nearest <;> simp [SetupBody.record, h]
  case unheard => cases h : b.trust <;> simp [SetupBody.record, h]
  case rowPolicy => cases h : b.useRow <;> simp [SetupBody.record, h]

/-! ### The first field out of range -/

/-- A failing check is that of a field out of range. -/
theorem mem_checks_false_iff (b : SetupBody) (owner : Bool) (n : Nat) :
    (n, false) ∈ SetupBody.checks b owner ↔ ¬ SetupBody.fieldInRange b owner n := by
  unfold SetupBody.fieldInRange SetupBody.checks
  split <;> simp_all

/-- The checks stand in the order of the field numbers. -/
theorem checks_ordered (b : SetupBody) (owner : Bool) :
    (SetupBody.checks b owner).Pairwise fun c d => c.1 < d.1 := by
  simp [SetupBody.checks]

theorem firstBad_eq_none_iff (b : SetupBody) (owner : Bool) :
    SetupBody.firstBad b owner = none ↔ ∀ n, SetupBody.fieldInRange b owner n := by
  simp only [SetupBody.firstBad, Option.map_eq_none_iff, List.find?_eq_none]
  constructor
  · intro pass n
    by_contra bad
    exact pass _ ((mem_checks_false_iff b owner n).2 bad) rfl
  · rintro inRange ⟨n, ok⟩ mem failed
    obtain rfl : ok = false := by simpa using failed
    exact (mem_checks_false_iff b owner n).1 mem (inRange n)

/-- The checks before the first failing one pass, and those behind it have higher numbers. -/
theorem fieldInRange_of_firstBad {b : SetupBody} {owner : Bool} {n : Nat}
    (first : SetupBody.firstBad b owner = some n) :
    ¬ SetupBody.fieldInRange b owner n ∧ ∀ m < n, SetupBody.fieldInRange b owner m := by
  obtain ⟨⟨k, ok⟩, found, rfl⟩ := Option.map_eq_some_iff.1 first
  obtain ⟨failed, before, after, parts, passed⟩ := List.find?_eq_some_iff_append.1 found
  obtain rfl : ok = false := by simpa using failed
  have ordered := checks_ordered b owner
  refine ⟨(mem_checks_false_iff b owner k).1 (by simp [parts]), fun m lower => ?_⟩
  by_contra bad
  have mem := (mem_checks_false_iff b owner m).2 bad
  rw [parts] at mem ordered
  obtain early | same | late : (m, false) ∈ before ∨ (m, false) = (k, false) ∨ (m, false) ∈ after := by
    simpa using mem
  · simpa using passed _ early
  · exact lower.ne (congrArg Prod.fst same)
  · obtain ⟨-, fromK, -⟩ := List.pairwise_append.1 ordered
    exact lower.asymm (List.rel_of_pairwise_cons fromK late)

/-- The number of a refused SETUP is that of the lowest field out of range (R179). -/
theorem firstBad_eq_some_iff (b : SetupBody) (owner : Bool) (n : Nat) :
    SetupBody.firstBad b owner = some n ↔
      ¬ SetupBody.fieldInRange b owner n ∧ ∀ m < n, SetupBody.fieldInRange b owner m := by
  refine ⟨fieldInRange_of_firstBad, fun ⟨bad, lower⟩ => ?_⟩
  cases h : SetupBody.firstBad b owner with
  | none => exact absurd ((firstBad_eq_none_iff b owner).1 h n) bad
  | some k =>
    obtain ⟨badK, lowerK⟩ := fieldInRange_of_firstBad h
    obtain less | rfl | more := Nat.lt_trichotomy n k
    · exact absurd (lowerK n less) bad
    · rfl
    · exact absurd (lower k more) badK

/-- A body with every field in range gives a record in its ranges; the width of a field bounds what its check
leaves open. -/
theorem record_inRange {b : SetupBody} {owner : Bool} (inRange : ∀ n, SetupBody.fieldInRange b owner n) :
    (SetupBody.record b owner).inRange := by
  obtain ⟨widthLow, widthHigh⟩ := inRange 1
  obtain ⟨krefLow, krefHigh⟩ := inRange 3
  obtain ⟨offsetLow, offsetHigh⟩ := inRange 4
  obtain ⟨faultLow, faultHigh⟩ := inRange 11
  have byteMax (x : Byte) : x.toNat ≤ 255 := Nat.le_of_lt_succ x.isLt
  obtain ⟨pinLow, pinHigh⟩ : -1048576 ≤ (SetupBody.record b owner).pinOffset ∧
      (SetupBody.record b owner).pinOffset ≤ 1048575 := by
    cases owner with
    | true => exact inRange 16 rfl
    | false => simp [SetupBody.record]
  exact ⟨widthLow, widthHigh, inRange 2, Nat.le_of_lt_succ b.pitch.isLt, krefLow, krefHigh, offsetLow,
    offsetHigh, b.phase.le_toInt, Int.le_of_lt_add_one b.phase.toInt_lt, inRange 6, inRange 10, byteMax _,
    faultLow, faultHigh, inRange 12, inRange 13, byteMax _, byteMax _, inRange 15, byteMax _, pinLow,
    pinHigh, byteMax _, inRange 18⟩

/-! ### The working width -/

theorem State.width_of_setup {s : State} {r : SetupRec} (taken : s.setup? = some r) : s.width = r.width := by
  simp only [State.width, State.param, taken]

theorem State.width_of_cleared {s : State} (cleared : s.setup? = none) : s.width = 4096 := by
  simp only [State.width, State.param, cleared, Config.widthMax]

/-! ### Acceptance -/

theorem acceptSetup_frame (s : State) (r : SetupRec) :
    Frame [.mode, .posIndices, .carrierTable, .health, .windowErrors, .cleanWindows] s (s.acceptSetup r) := by
  refine .of ?_
  intro p hp
  cases p <;> simp_all [Part.same, State.acceptSetup, State.reindex]

theorem getElem_mapTable (f : CarrierRec → CarrierRec) (t : Vector CarrierRec 16) (c : Fin 16) :
    (mapTable f t)[c] = f t[c] := by
  simp [mapTable]

/-- Each record is clamped to the new width (R128). -/
theorem State.carrier_acceptSetup (s : State) (r : SetupRec) (c : Fin 16) :
    (s.acceptSetup r).carrier c = clampRecord r.width (s.carrier c) :=
  getElem_mapTable _ s.carr.table c

@[simp] theorem clampRecord_reserved (w : Nat) (x : CarrierRec) : (clampRecord w x).reserved = x.reserved := by
  unfold clampRecord
  split <;> rfl

theorem clampRecord_of_parked {w : Nat} {x : CarrierRec} {n : Int} (parked : x.place = .parked n) :
    (clampRecord w x).place = .parked (min n (w + 63)) := by
  simp only [clampRecord, parked, Config.parkBeyond, add_sub_assoc]
  rfl

theorem clampRecord_of_notParked {w : Nat} {x : CarrierRec} (free : ∀ n, x.place ≠ .parked n) :
    clampRecord w x = x := by
  unfold clampRecord
  split
  · exact absurd ‹_› (free _)
  · rfl

/-! ### The ends of a SETUP -/

theorem refuseSetup_frame (s : State) (n : Nat) : Frame [.sticky, .firstBad] s (s.refuseSetup n) := by
  have number : Frame [.firstBad] s (s.setCtl { s.ctl with firstBad := some n }) := by
    refine .of ?_
    intro p hp
    cases p <;> simp_all [Part.same]
  exact number.then (setSticky_frame _ .setupRefused)

theorem State.takeSetup_of_inRange {s : State} {b : SetupBody} (cleared : s.ctl.mode = .setup)
    (inRange : ∀ n, SetupBody.fieldInRange b s.ctl.owner n) :
    s.takeSetup b = s.acceptSetup (SetupBody.record b s.ctl.owner) := by
  simp only [State.takeSetup, cleared, (firstBad_eq_none_iff b s.ctl.owner).2 inRange]

theorem State.takeSetup_of_bad {s : State} {b : SetupBody} {n : Nat} (cleared : s.ctl.mode = .setup)
    (bad : ¬ SetupBody.fieldInRange b s.ctl.owner n)
    (lower : ∀ m < n, SetupBody.fieldInRange b s.ctl.owner m) : s.takeSetup b = s.refuseSetup n := by
  simp only [State.takeSetup, cleared, (firstBad_eq_some_iff b s.ctl.owner n).2 ⟨bad, lower⟩]

theorem State.takeSetup_of_late {s : State} {b : SetupBody} (late : s.ctl.mode ≠ .setup) :
    s.takeSetup b = s.setSticky .lateSetup := by
  unfold State.takeSetup
  split
  · exact absurd ‹_› late
  · rfl

theorem exec_setup_of_addressed {q : BitVec 5} {b : SetupBody} {s : State} (hears : s.hears = true)
    (mine : s.addressed q = true) : exec (.setup q b) s = .next (s.endMark.takeSetup b) :=
  congrArg Host.Outcome.next (State.ifAddressed_of_addressed hears mine _)

/-- Settles O56, by where the SETUP finds the station: addressed elsewhere, in SETUP with every field in range
or with a first bad one, or late; the end mark leaves station control and the carrier table alone. -/
theorem setupIsCheckedOnceFieldByField : Obligations.SetupIsCheckedOnceFieldByField := by
  refine ⟨recordOf_record, setupReads_readSetup,
    fun s => ⟨fun r => s.width_of_setup, s.width_of_cleared⟩, ?inSetup, ?otherwise⟩
  case inSetup =>
    intro q b s hears mine cleared
    refine ⟨_, exec_setup_of_addressed hears mine, fun inRange => ?accepted, fun n bad lower => ?refused⟩
    case accepted =>
      rw [State.takeSetup_of_inRange (s := s.endMark) cleared inRange]
      refine ⟨rfl, record_inRange inRange, rfl, rfl, rfl, rfl, ?frame, fun c => ?carrier⟩
      case frame => exact ((endMark_frame s).then (acceptSetup_frame _ _)).same
      case carrier =>
        rw [State.carrier_acceptSetup, (endMark_frame s).carrier_eq c]
        exact ⟨clampRecord_reserved _ _, fun x => clampRecord_of_parked, clampRecord_of_notParked⟩
    case refused =>
      rw [State.takeSetup_of_bad (s := s.endMark) cleared bad lower]
      refine ⟨?frame, rfl, ?flagged, ?flags⟩
      case frame => exact ((endMark_frame s).then (refuseSetup_frame _ n)).same
      case flagged => exact (State.isSticky_setSticky _ .setupRefused .setupRefused).trans (by simp)
      case flags => exact StickyExcept.of_setSticky (s.endMark.setCtl _) .setupRefused
  case otherwise =>
    intro q b s
    refine ⟨_, rfl, fun elsewhere => (ifAddressed_frame_of_elsewhere elsewhere _).same,
      fun hears mine late => ?_⟩
    rw [State.ifAddressed_of_addressed hears mine, State.takeSetup_of_late (s := s.endMark) late]
    refine ⟨?frame, ?flagged, ?flags⟩
    case frame => exact ((endMark_frame s).then (setSticky_frame _ .lateSetup)).same
    case flagged => exact (State.isSticky_setSticky s.endMark .lateSetup .lateSetup).trans (by simp)
    case flags => exact StickyExcept.of_setSticky s.endMark .lateSetup

end Sys2Proof.Machine
end

section
/-! SUPPORT. The state with some of its parts blank, by which a change that keeps to listed parts is seen at once. -/

namespace Sys2Proof.Machine

/-- A part's value, blank where the part is listed. -/
def unlisted {α : Type} (l : List Part) (p : Part) (blank x : α) : α := if p ∈ l then blank else x

theorem unlisted_of_not_mem {α : Type} {l : List Part} {p : Part} (out : p ∉ l) (blank x : α) :
    unlisted l p blank x = x := if_neg out

/-- The station with the listed parts blank. -/
def State.blanked (l : List Part) (s : State) : State where
  pos :=
    { c := unlisted l .posC 0 s.pos.c, phaseA := unlisted l .posPhase false s.pos.phaseA
      phaseB := unlisted l .posPhase false s.pos.phaseB, tracker := unlisted l .posTracker (.right 0) s.pos.tracker
      referenced := unlisted l .posReferenced false s.pos.referenced, idx := unlisted l .posIndices none s.pos.idx
      racking := unlisted l .posRacking 0 s.pos.racking, frontier := unlisted l .posFrontier none s.pos.frontier }
  rows :=
    { slots := unlisted l .rowSlots (Vector.replicate 4 none) s.rows.slots
      pinned := unlisted l .rowPinned none s.rows.pinned }
  course :=
    { queue := unlisted l .orderQueue [] s.course.queue, standby := unlisted l .standby none s.course.standby
      active := unlisted l .active none s.course.active, expected := unlisted l .expected none s.course.expected
      choice := unlisted l .rowChoice none s.course.choice, cleanRead := unlisted l .cleanRead false s.course.cleanRead
      table := unlisted l .backingTable [] s.course.table, phase := unlisted l .backingPhase 0 s.course.phase
      shadow := unlisted l .backingShadow none s.course.shadow, flags := unlisted l .courseFlags 0 s.course.flags
      tally := unlisted l .tally ⟨0, 0, 0, 0, 0, 0, 0⟩ s.course.tally
      lastRefusal := unlisted l .lastRefusal none s.course.lastRefusal }
  dec := { outcomes := unlisted l .outcomes [] s.dec.outcomes, float := unlisted l .float 0 s.dec.float }
  claim :=
    { page0 := unlisted l .pages none s.claim.page0, page1 := unlisted l .pages none s.claim.page1
      run := unlisted l .openRun none s.claim.run }
  head :=
    { height := unlisted l .headHeight none s.head.height, code := unlisted l .headCode .low s.head.code
      fire := unlisted l .headFire none s.head.fire, waiting := unlisted l .headWaiting none s.head.waiting
      faults := unlisted l .headFaults 0 s.head.faults, disabled := unlisted l .headDisabled false s.head.disabled
      railGood := unlisted l .railGood false s.head.railGood, railLevel := unlisted l .railLevel false s.head.railLevel
      railHeld := unlisted l .railHeld 0 s.head.railHeld, railCause := unlisted l .railCause false s.head.railCause }
  carr :=
    { table := unlisted l .carrierTable (Vector.replicate 16 ⟨.unknown, none⟩) s.carr.table
      pin := unlisted l .pin .released s.carr.pin, standbyTake := unlisted l .standbyTake none s.carr.standbyTake
      course := unlisted l .courseCarrier none s.carr.course }
  line :=
    { list := unlisted l .transmitList [] s.line.list, sending := unlisted l .sending none s.line.sending
      receiver := unlisted l .receiver .waitIdle s.line.receiver, idleTime := unlisted l .idleTime 0 s.line.idleTime
      guardCut := unlisted l .guard false s.line.guardCut, driven := unlisted l .guardDriven 0 s.line.driven
      off := unlisted l .guardOff 0 s.line.off, degraded := unlisted l .health false s.line.degraded
      windowErrors := unlisted l .windowErrors 0 s.line.windowErrors
      cleanWindows := unlisted l .cleanWindows 0 s.line.cleanWindows }
  ctl :=
    { station := unlisted l .straps 0 s.ctl.station, bedBack := unlisted l .straps false s.ctl.bedBack
      owner := unlisted l .straps false s.ctl.owner, mode := unlisted l .mode .setup s.ctl.mode
      sticky := unlisted l .sticky 0 s.ctl.sticky, causes := unlisted l .causes 0 s.ctl.causes
      latch := unlisted l .latch false s.ctl.latch, firstBad := unlisted l .firstBad none s.ctl.firstBad
      history := unlisted l .history (Vector.replicate 8 false) s.ctl.history }
  counts := unlisted l .counts (Vector.replicate 41 0) s.counts
  pending := unlisted l .pending [] s.pending

/-- States that agree once the listed parts are blank differ in nothing else. -/
theorem SameExcept.of_blanked {l : List Part} {s t : State} (same : t.blanked l = s.blanked l) : SameExcept l s t := by
  intro p out
  simp only [State.blanked, State.mk.injEq, Position.mk.injEq, RowStore.mk.injEq, CourseCtl.mk.injEq, Decision.mk.injEq,
    ClaimUnit.mk.injEq, Head.mk.injEq, CarrierUnit.mk.injEq, Line.mk.injEq, Control.mk.injEq] at same
  cases p <;> simp_all only [unlisted_of_not_mem out, Part.same, and_self]

end Sys2Proof.Machine
end

section
/-! PROOF. Every command has a next state and keeps to its footprint (O2), and all but the clears and the hard
reset let flags, causes, the latch and the counters only rise. -/

namespace Sys2Proof.Machine

/-- What a command answers is a next state that differs from `s` in the listed parts only. -/
inductive GoesOn (l : List Part) (s : State) (o : Host.Outcome State Fault Refusal) : Prop
  | intro (t : State) (next : o = .next t) (frame : Frame l s t)

/-! ### The head, the rail and the pin -/

theorem execHeadConfirm_frame (s : State) : GoesOn (footprint .headConfirm) s (execHeadConfirm s) := by
  unfold execHeadConfirm
  split
  · exact ⟨_, rfl, (bump_frame s _).mono⟩
  next f _ =>
    have confirmed : Frame [.headHeight, .headFire, .headFaults] s
        (s.setHead { s.head with height := some f.target, fire := none, faults := 0 }) :=
      .of (.of_blanked rfl)
    exact ⟨_, rfl, (confirmed.then (answerIf_frame _ _ _) (n := footprint .headConfirm)).then (serve_frame _)⟩

theorem execFireDeadline_frame (s : State) : GoesOn (footprint .fireDeadline) s (execFireDeadline s) := by
  unfold execFireDeadline
  split
  · exact ⟨_, rfl, .refl _ s⟩
  next f _ =>
    have ended : Frame [.headHeight, .headFire, .headFaults] s
        (s.setHead { s.head with height := none, fire := none, faults := s.head.faults + 1 }) :=
      .of (.of_blanked rfl)
    have counted := (ended.then (setSticky_frame _ .fireFault) (n := footprint .fireDeadline)).then
      (bump_frame _ .fireDeadlines) (n := footprint .fireDeadline)
    have judged := (counted.then (answerIf_frame _ f.needle .fault) (n := footprint .fireDeadline)).then
      (judgeFaults_frame _) (n := footprint .fireDeadline)
    exact ⟨_, rfl, judged.then (serve_frame _)⟩

theorem execRailInputChange_frame (level : Bool) (s : State) :
    GoesOn [.railLevel, .railHeld] s (execRailInputChange level s) := by
  unfold execRailInputChange
  split
  · exact ⟨_, rfl, .refl _ s⟩
  · exact ⟨_, rfl, .of (.of_blanked rfl)⟩

theorem execRailFilterExpiry_frame (s : State) : GoesOn (footprint .railFilterExpiry) s (execRailFilterExpiry s) := by
  unfold execRailFilterExpiry
  have held (good cause : Bool) : Frame [.railGood, .railHeld, .railCause] s
      (s.setHead { s.head with
        railHeld := Config.railFilterTime, railGood := good, railCause := cause }) :=
    .of (.of_blanked rfl)
  split_ifs
  · exact ⟨_, rfl, (held s.head.railGood s.head.railCause).mono⟩
  · exact ⟨_, rfl, (held true false).mono⟩
  · exact ⟨_, rfl, ((held false true).then (raise_frame _ _)
      (n := footprint .railFilterExpiry)).then (bump_frame _ _)⟩

theorem execPinConfirm_frame (s : State) : GoesOn (footprint .pinConfirm) s (execPinConfirm s) := by
  unfold execPinConfirm
  split
  · exact ⟨_, rfl, (bump_frame s _).mono⟩
  · exact ⟨_, rfl, (bump_frame s _).mono⟩
  next c pass _ _ _ =>
    have engaged := ((setPin_frame s (.engaged c pass)).then (record_held_frame _ c s.ctl.station (s.carrier c).reserved)
      (n := footprint .pinConfirm)).then (offer_frame _ (.pick pass c)) (n := footprint .pinConfirm)
    exact ⟨_, rfl, .ite (engaged.then (confirmHeld_frame _)) (engaged.then (startRelease_frame _))⟩
  · have released := setPin_frame s .released
    dsimp only
    split
    · exact ⟨_, rfl, released.then (judgeFree_frame _)⟩
    · exact ⟨_, rfl, ((released.then (record_quiet_frame _ _ _ _) (n := footprint .pinConfirm)).then
        (judgeFree_frame _) (n := footprint .pinConfirm)).then (offer_frame _ _)⟩

theorem execEngagementDeadline_frame (s : State) :
    GoesOn (footprint .engagementDeadline) s (execEngagementDeadline s) := by
  unfold execEngagementDeadline
  split
  next ofCourse _ =>
    have faulted : Frame (footprint .engagementDeadline) s (if ofCourse then s.faultCarrier else s) :=
      .ite (faultCarrier_frame s).mono (.refl _ s)
    exact ⟨_, rfl, (faulted.then (pinFault_frame _) (n := footprint .engagementDeadline)).then
      (loseCarrier_frame _ _ _)⟩
  · exact ⟨_, rfl, .refl _ s⟩

theorem execReleaseDeadline_frame (s : State) : GoesOn (footprint .releaseDeadline) s (execReleaseDeadline s) := by
  unfold execReleaseDeadline
  split
  · split
    · exact ⟨_, rfl, (pinFault_frame s).then (judgeFree_frame _)⟩
    · exact ⟨_, rfl, (pinFault_frame s).then (loseCarrier_frame _ _ _)⟩
  · exact ⟨_, rfl, .refl _ s⟩

/-! ### The encoder and the reference mark -/

theorem execEncoderEdge_frame (a b : Bool) (s : State) :
    GoesOn (footprint (.encoderEdge a b)) s (execEncoderEdge a b s) := by
  have phase := takePhase_frame s a b
  have moved (d : Int) : Frame (footprint (.encoderEdge a b)) s ((s.takePhase a b).legalEdge d) :=
    phase.then (legalEdge_frame _ d) (by simp only [footprint]; decide) (by simp only [footprint]; decide)
  have flagged : Frame [.posPhase, .sticky] s ((s.takePhase a b).setSticky .encoder) :=
    phase.then (setSticky_frame _ .encoder)
  unfold execEncoderEdge
  dsimp only
  split
  · exact ⟨_, rfl, phase.mono (by simp only [footprint]; decide)⟩
  · exact ⟨_, rfl, moved 1⟩
  · exact ⟨_, rfl, moved (-1)⟩
  · exact ⟨_, rfl, flagged.then (bump_frame _ _)
      (by simp only [footprint]; decide) (by simp only [footprint]; decide)⟩

theorem loadReference_frame (s : State) (r : SetupRec) :
    Frame (footprint .referenceMark) s (s.loadReference r) := by
  have loaded (t : State) : Frame [.posC, .posTracker, .posReferenced, .mode] t
      ((t.setPos { t.pos with c := r.kref, tracker := .right r.kref, referenced := true }).setCtl
        { t.ctl with mode := t.ctl.mode.referenced }) :=
    .of (.of_blanked rfl)
  exact (((checkSlip_frame s r).then (loaded _) (n := footprint .referenceMark)).then (form_frame _)
    (n := footprint .referenceMark)).then (arrivals_frame _)

theorem execReferenceMark_frame (s : State) : GoesOn (footprint .referenceMark) s (execReferenceMark s) := by
  unfold execReferenceMark
  split
  · exact ⟨_, rfl, loadReference_frame s _⟩
  · exact ⟨_, rfl, .refl _ s⟩

/-! ### The pattern node's notices -/

/-- With the transmit list just emptied, the PARK of a course reset has its room. -/
theorem resetPin_frame_of_empty (s : State) (empty : s.line.list = []) :
    Frame [.pin, .transmitList] s s.resetPin := by
  have queued (x : Pin) (n : Notice) : Frame [.pin, .transmitList] s ((s.setPin x).offer n) := by
    rw [State.offer_room _ n (by simp [State.setPin, empty])]
    exact (setPin_frame s x).then (setLine_list_frame _ _)
  unfold State.resetPin
  split
  · exact .refl _ s
  · exact queued _ _
  · exact queued _ _
  · exact queued _ _

theorem takeSetup_frame (s : State) (b : SetupBody) :
    Frame [.mode, .posIndices, .carrierTable, .health, .windowErrors, .cleanWindows, .sticky, .firstBad] s
      (s.takeSetup b) := by
  unfold State.takeSetup
  split
  · split
    · exact (refuseSetup_frame s _).mono
    · exact (acceptSetup_frame s _).mono
  · exact (setSticky_frame s _).mono

theorem courseReset_frame (s : State) : Frame (footprint (.reset 0)) s s.courseReset := by
  have course : Frame [.orderQueue, .standby, .active, .expected, .rowChoice, .cleanRead, .backingShadow,
      .courseFlags, .tally] s s.resetCourse :=
    .of (.of_blanked rfl)
  have rows (t : State) : Frame [.rowSlots, .rowPinned] t t.resetRows :=
    .of (.of_blanked rfl)
  have claims (t : State) : Frame [.outcomes, .float, .pages, .openRun] t t.resetClaims :=
    .of (.of_blanked rfl)
  have line (t : State) : Frame [.transmitList] t t.resetLine :=
    .of (.of_blanked rfl)
  have table (t : State) : Frame [.carrierTable, .standbyTake, .courseCarrier] t (t.setCarr { t.carr with
      table := Vector.replicate 16 ⟨.unknown, none⟩, standbyTake := none, course := none }) :=
    .of (.of_blanked rfl)
  have frontier (t : State) : Frame [.posFrontier, .posRacking] t
      (t.setPos { t.pos with frontier := none, racking := 0 }) :=
    .of (.of_blanked rfl)
  have history (t : State) : Frame [.history] t t.resetHistory :=
    .of (.of_blanked rfl)
  have upToHead := ((course.then (rows _) (n := footprint (.reset 0))).then (claims _)
    (n := footprint (.reset 0))).then (resetHead_frame _) (n := footprint (.reset 0))
  have upToCarriers := ((upToHead.then (line _) (n := footprint (.reset 0))).then (table _)
    (n := footprint (.reset 0))).then (resetPin_frame_of_empty _ rfl)
    (n := footprint (.reset 0))
  exact ((upToCarriers.then (frontier _) (n := footprint (.reset 0))).then (reindex_frame _)
    (n := footprint (.reset 0))).then (history _)

theorem clearLatch_same (s : State) : SameExcept [.latch] s s.clearLatch := by
  unfold State.clearLatch
  split
  · exact .refl _ s
  · exact .of_blanked rfl

theorem clearFlags_same (s : State) : SameExcept [.sticky, .causes, .firstBad, .lastRefusal] s s.clearFlags :=
  .of_blanked rfl

theorem answerPage1_same (s : State) (clear : Bool) :
    SameExcept [.transmitList, .counts] s (s.answerPage1 clear) := by
  have zeroed : SameExcept [.counts] s (if clear then s.setCounts (Vector.replicate 41 0) else s) := by
    split
    · exact .of_blanked rfl
    · exact .refl _ s
  exact zeroed.then (offerParts_frame 1 0 _ _).same

/-- What a heard and addressed notice changes, where it may also lower flags. -/
theorem ifAddressed_same (s : State) (q : BitVec 5) (f : State → State) (l m : List Part)
    (hf : SameExcept l s.endMark (f s.endMark)) (hl : ∀ p ∈ l, p ∈ m) (hn : ∀ p ∈ noticeParts, p ∈ m) :
    SameExcept m s (s.ifAddressed q f) := by
  unfold State.ifAddressed State.heard
  split
  · dsimp only
    split
    · exact (endMark_frame s).same.then hf hn hl
    · exact (endMark_frame s).same.mono hn
  · exact .refl _ s

/-! ### The line -/

theorem setLine_receiver_frame (s : State) (x : Receiver) (n : Nat) :
    Frame noticeParts s (s.setLine { s.line with receiver := x, idleTime := n }) :=
  .of (.of_blanked rfl)

theorem execReceiverIdle_frame (s : State) : GoesOn noticeParts s (execReceiverIdle s) := by
  unfold execReceiverIdle
  split
  · exact ⟨_, rfl, .refl _ s⟩
  · exact ⟨_, rfl, setLine_receiver_frame s _ _⟩

theorem execStartMark_frame (s : State) : GoesOn noticeParts s (execStartMark s) := by
  unfold execStartMark
  split
  · exact ⟨_, rfl, setLine_receiver_frame s _ _⟩
  · exact ⟨_, rfl, .refl _ s⟩

theorem execTransmitStart_frame (s : State) : GoesOn (footprint .transmitStart) s (execTransmitStart s) := by
  unfold execTransmitStart
  split
  · exact ⟨_, rfl, .refl _ s⟩
  · split
    · exact ⟨_, rfl, .of (.of_blanked rfl)⟩
    · exact ⟨_, rfl, .refl _ s⟩

theorem execNoticeSent_frame (s : State) : GoesOn (footprint .noticeSent) s (execNoticeSent s) := by
  unfold execNoticeSent
  split
  · exact ⟨_, rfl, .refl _ s⟩
  · exact ⟨_, rfl, ((drop_frame s _).then (endMark_frame _) (n := footprint .noticeSent)).then
      (toldSent_frame _ _)⟩

theorem execArbitrationLost_frame (s : State) : GoesOn (footprint .arbitrationLost) s (execArbitrationLost s) := by
  unfold execArbitrationLost
  split
  · exact ⟨_, rfl, .refl _ s⟩
  · exact ⟨_, rfl, standBack_frame s⟩

theorem execSendCollision_frame (s : State) : GoesOn (footprint .sendCollision) s (execSendCollision s) := by
  unfold execSendCollision
  split
  · exact ⟨_, rfl, .refl _ s⟩
  · exact ⟨_, rfl, (standBack_frame s).then (bump_frame _ _)⟩

theorem execGuardCut_frame (s : State) : GoesOn (footprint .guardCut) s (execGuardCut s) := by
  unfold execGuardCut
  split
  · exact ⟨_, rfl, .refl _ s⟩
  next n _ =>
    have cut : Frame [.transmitList, .sending, .guardOff, .guard, .guardDriven] s
        (s.setLine { s.line.drop n with guardCut := true, driven := Config.guardLimit }) :=
      .of (.of_blanked rfl)
    have raised := (cut.then (bump_frame _ .guardCuts) (n := footprint .guardCut)).then
      (raise_frame _ .guardCut) (n := footprint .guardCut)
    exact ⟨_, rfl, raised.then (toldLost_frame _ n)⟩

theorem execGuardReturn_frame (s : State) : GoesOn (footprint .guardReturn) s (execGuardReturn s) := by
  unfold execGuardReturn
  split
  · exact ⟨_, rfl, .of (.of_blanked rfl)⟩
  · exact ⟨_, rfl, .refl _ s⟩

theorem execLineWindowEnd_frame (s : State) : GoesOn (footprint .lineWindowEnd) s (execLineWindowEnd s) := by
  unfold execLineWindowEnd
  split
  · exact ⟨_, rfl, .refl _ s⟩
  · exact ⟨_, rfl, .of (.of_blanked rfl)⟩

theorem countForeign_frame (s : State) (kind : BitVec 5) :
    Frame [.counts, .sticky] s (s.countForeign kind) :=
  .ite (bump_frame s _).mono ((bump_frame s _).then (setSticky_frame _ _))

/-! ### Every command -/

/-- The commands that may lower a flag, the latch or a counter: the two clears, a QUERY of page 1, which may
carry the clear flag, and the hard reset (R181, R186, R188). -/
def lowers : Instr → Bool
  | .clearStop _ => true
  | .clearSticky _ => true
  | .queryPage1 _ _ => true
  | .hardReset _ _ _ _ => true
  | _ => false

/-- A command that lowers nothing has a next state, changes its footprint, and lets flags and counters rise. -/
theorem exec_frame {c : Instr} (s : State) (rising : lowers c = false) : GoesOn (footprint c) s (exec c s) := by
  cases c with
  | encoderEdge a b => exact execEncoderEdge_frame a b s
  | referenceMark => exact execReferenceMark_frame s
  | headConfirm => exact execHeadConfirm_frame s
  | fireDeadline => exact execFireDeadline_frame s
  | railInputChange level => exact execRailInputChange_frame level s
  | railFilterExpiry => exact execRailFilterExpiry_frame s
  | pinConfirm => exact execPinConfirm_frame s
  | engagementDeadline => exact execEngagementDeadline_frame s
  | releaseDeadline => exact execReleaseDeadline_frame s
  | span body =>
    exact ⟨_, rfl, ifMasked_frame s _ _ [.rowSlots, .counts, .standby, .active, .sticky] _
      (filtered_frame _ _ _ _ (takeSpan_frame _ body) (fun _ => id) (by decide))
      (by simp only [footprint]; decide) (by simp only [footprint]; decide)⟩
  | close body =>
    exact ⟨_, rfl, ifMasked_frame s _ _ [.rowSlots, .counts, .standby, .active] _
      (filtered_frame _ _ _ _ (takeClose_frame _ body) (fun _ => id) (by decide))
      (by simp only [footprint]; decide) (by simp only [footprint]; decide)⟩
  | order target body =>
    exact ⟨_, rfl, ifAddressed_frame s _ _
      [.pages, .orderQueue, .standby, .standbyTake, .transmitList, .counts, .lastRefusal, .sticky] _
      (filtered_frame _ _ _ _ (takeOrder_frame _ body) (fun _ => id) (by decide))
      (by simp only [footprint]; decide) (by simp only [footprint]; decide)⟩
  | backing target body =>
    exact ⟨_, rfl, ifAddressed_frame s _ _ [.backingShadow, .sticky, .counts] _
      (filtered_frame _ _ _ _ (takeBacking_frame _ body) (by decide) (by decide))
      (by simp only [footprint]; decide) (by simp only [footprint]; decide)⟩
  | place carrier position =>
    exact ⟨_, rfl, heard_frame s _ (([.carrierTable, .sticky, .counts] : List Part) ++ judgeParts) _
      (withCarrier_frame _ _ _ _ _ (by decide) (.refl _ _) fun c => (takePlace_frame _ c position).mono)
      (by simp only [footprint]; decide) (by simp only [footprint]; decide)⟩
  | take sender pass carrier =>
    exact ⟨_, rfl, fromPeer_frame s _ _ [.carrierTable, .standbyTake, .courseCarrier, .courseFlags, .causes,
      .latch, .transmitList, .counts] _
      (withCarrier_frame _ _ _ _ _ (by decide) (.refl _ _) fun c => takeTake_frame _ sender pass c)
      (by simp only [footprint]; decide) (by simp only [footprint]; decide)⟩
  | pick sender pass carrier =>
    exact ⟨_, rfl, fromPeer_frame s _ _ [.carrierTable, .courseCarrier, .counts] _
      (withCarrier_frame _ _ _ _ _ (by decide) (.refl _ _) fun c => takePick_frame _ sender pass c)
      (by simp only [footprint]; decide) (by simp only [footprint]; decide)⟩
  | park sender pass carrier position =>
    exact ⟨_, rfl, fromPeer_frame s _ _ (([.carrierTable, .counts] : List Part) ++ judgeParts) _
      (withCarrier_frame _ _ _ _ _ (by decide) (.refl _ _) fun c => takePark_frame _ pass c position)
      (by simp only [footprint]; decide) (by simp only [footprint]; decide)⟩
  | claim sender body =>
    exact ⟨_, rfl, fromPeer_frame s _ _ [.pages, .counts] _ (takeClaim_frame _ sender body)
      (by simp only [footprint]; decide) (by simp only [footprint]; decide)⟩
  | report sender body =>
    exact ⟨_, rfl, fromPeer_frame s _ _ [] _ (.refl _ _)
      (by simp only [footprint]; decide) (by simp only [footprint]; decide)⟩
  | status sender body =>
    exact ⟨_, rfl, fromPeer_frame s _ _ [] _ (.refl _ _)
      (by simp only [footprint]; decide) (by simp only [footprint]; decide)⟩
  | setup target body =>
    exact ⟨_, rfl, ifAddressed_frame s _ _
      [.mode, .posIndices, .carrierTable, .health, .windowErrors, .cleanWindows, .sticky, .firstBad] _
      (takeSetup_frame _ body) (by simp only [footprint]; decide) (by simp only [footprint]; decide)⟩
  | reset target =>
    exact ⟨_, rfl, ifAddressed_frame s _ _ (footprint (.reset 0)) _ (courseReset_frame _)
      (by simp only [footprint]; decide) (by simp only [footprint]; decide)⟩
  | clearStop target => exact nomatch rising
  | clearSticky target => exact nomatch rising
  | queryPage0 target clear =>
    exact ⟨_, rfl, ifAddressed_frame s _ _ [.transmitList, .counts] _ (offerParts_frame 0 0 _ _)
      (by simp only [footprint]; decide) (by simp only [footprint]; decide)⟩
  | queryPage1 target clear => exact nomatch rising
  | queryPage2 target clear =>
    exact ⟨_, rfl, ifAddressed_frame s _ _ [.transmitList, .counts] _ (offerParts_frame 2 0 _ _)
      (by simp only [footprint]; decide) (by simp only [footprint]; decide)⟩
  | queryUnknownPage target page clear =>
    exact ⟨_, rfl, ifAddressed_frame s _ _ [.sticky] _ (setSticky_frame _ _)
      (by simp only [footprint]; decide) (by simp only [footprint]; decide)⟩
  | lineError kind =>
    exact ⟨_, rfl, heard_frame s _ [.windowErrors, .health, .cleanWindows, .counts, .courseFlags] _
      ((bump_frame _ _).then (noteError_frame _))
      (by simp only [footprint]; decide) (by simp only [footprint]; decide)⟩
  | symbolError =>
    have discarded (t : State) : Frame noticeParts t (t.setLine { t.line with receiver := .discarding }) :=
      setLine_receiver_frame t .discarding t.line.idleTime
    exact ⟨_, rfl, heard_frame s _ (footprint .symbolError) _
      (((discarded _).then (bump_frame _ _) (n := footprint .symbolError)).then (noteError_frame _))
      (fun _ => id) (by decide)⟩
  | foreignNotice kind sender =>
    exact ⟨_, rfl, heard_frame s _ (.counts :: clashParts) _
      (.ite (clash_frame _).mono (.ite (countForeign_frame _ kind).mono (.refl _ _)))
      (by simp only [footprint]; decide) (by simp only [footprint]; decide)⟩
  | addressClash kind =>
    exact ⟨_, rfl, heard_frame s _ clashParts _ (clash_frame _)
      (by simp only [footprint]; decide) (by simp only [footprint]; decide)⟩
  | receiverIdle => exact execReceiverIdle_frame s
  | transmitStart => exact execTransmitStart_frame s
  | noticeSent => exact execNoticeSent_frame s
  | arbitrationLost => exact execArbitrationLost_frame s
  | sendCollision => exact execSendCollision_frame s
  | guardCut => exact execGuardCut_frame s
  | guardReturn => exact execGuardReturn_frame s
  | lineWindowEnd => exact execLineWindowEnd_frame s
  | hardReset straps a b rail => exact nomatch rising
  | startMark => exact execStartMark_frame s

/-- A hard reset leaves the commands that wait. -/
theorem hardReset_same (s : State) (x : BitVec 6) (a b rail : Bool) :
    SameExcept (footprint (.hardReset x a b rail)) s (s.hardReset x a b rail) := by
  exact .of_blanked rfl

/-- Settles O2: but for the four commands that lower something, by their frames. -/
theorem commandsCompleteWithinTheirFootprint : Obligations.CommandsCompleteWithinTheirFootprint := by
  intro c s
  cases rising : lowers c with
  | false =>
    obtain ⟨t, next, frame⟩ := exec_frame s rising
    exact ⟨t, next, frame.same⟩
  | true =>
    cases c with
    | clearStop target =>
      exact ⟨_, rfl, ifAddressed_same s _ _ [.latch] _ (clearLatch_same _)
        (by simp [footprint]) (by simp only [footprint]; decide)⟩
    | clearSticky target =>
      exact ⟨_, rfl, ifAddressed_same s _ _ [.sticky, .causes, .firstBad, .lastRefusal] _ (clearFlags_same _)
        (by simp only [footprint]; decide) (by simp only [footprint]; decide)⟩
    | queryPage1 target clear =>
      exact ⟨_, rfl, ifAddressed_same s _ _ [.transmitList, .counts] _ (answerPage1_same _ _)
        (by simp only [footprint]; decide) (by simp only [footprint]; decide)⟩
    | hardReset x a b rail => exact ⟨_, rfl, hardReset_same s x a b rail⟩
    | _ => exact nomatch rising

/-- What any command leaves as it was. -/
theorem exec_same {c : Instr} {s t : State} (next : exec c s = .next t) : SameExcept (footprint c) s t := by
  obtain ⟨u, next', same⟩ := commandsCompleteWithinTheirFootprint c s
  obtain rfl : u = t := by simpa [next'] using next
  exact same

/-- A command that lowers nothing lets flags and counters rise. -/
theorem exec_rises {c : Instr} {s t : State} (next : exec c s = .next t) (rising : lowers c = false) :
    Rises s t := by
  obtain ⟨u, next', frame⟩ := exec_frame s rising
  obtain rfl : u = t := by simpa [next'] using next
  exact frame.rises

/-- Some part of the list is in the footprint of the command. -/
def touches (R : List Part) (c : Instr) : Bool := R.any fun p => decide (p ∈ footprint c)

theorem touches_of_mem {R : List Part} {c : Instr} (touched : ∃ p ∈ R, p ∈ footprint c) : touches R c = true := by
  obtain ⟨p, listed, inside⟩ := touched
  exact List.any_eq_true.2 ⟨p, listed, decide_eq_true inside⟩

end Sys2Proof.Machine
end

section
/-! SUPPORT. A block of the state none of whose parts a frame lists is the same as a whole. -/

namespace Sys2Proof.Machine

/-- The parts of the position unit. -/
def posParts : List Part :=
  [.posC, .posPhase, .posTracker, .posReferenced, .posIndices, .posRacking, .posFrontier]

theorem SameExcept.pos_eq {l : List Part} {s t : State} (h : SameExcept l s t)
    (hl : ∀ p ∈ posParts, p ∉ l := by decide) : t.pos = s.pos := by
  have same : ∀ p ∈ posParts, p.same s t := fun p hp => h p (hl p hp)
  cases hs : s.pos
  cases ht : t.pos
  simp_all [posParts, Part.same]

/-- The parts of the row store. -/
def rowsParts : List Part :=
  [.rowSlots, .rowPinned]

theorem SameExcept.rows_eq {l : List Part} {s t : State} (h : SameExcept l s t)
    (hl : ∀ p ∈ rowsParts, p ∉ l := by decide) : t.rows = s.rows := by
  have same : ∀ p ∈ rowsParts, p.same s t := fun p hp => h p (hl p hp)
  cases hs : s.rows
  cases ht : t.rows
  simp_all [rowsParts, Part.same]

/-- The parts of the course controller. -/
def courseParts : List Part :=
  [.orderQueue, .standby, .active, .expected, .rowChoice, .cleanRead, .backingTable, .backingPhase,
   .backingShadow, .courseFlags, .tally, .lastRefusal]

theorem SameExcept.course_eq {l : List Part} {s t : State} (h : SameExcept l s t)
    (hl : ∀ p ∈ courseParts, p ∉ l := by decide) : t.course = s.course := by
  have same : ∀ p ∈ courseParts, p.same s t := fun p hp => h p (hl p hp)
  cases hs : s.course
  cases ht : t.course
  simp_all [courseParts, Part.same]

/-- The parts of the decision unit. -/
def decParts : List Part :=
  [.outcomes, .float]

theorem SameExcept.dec_eq {l : List Part} {s t : State} (h : SameExcept l s t)
    (hl : ∀ p ∈ decParts, p ∉ l := by decide) : t.dec = s.dec := by
  have same : ∀ p ∈ decParts, p.same s t := fun p hp => h p (hl p hp)
  cases hs : s.dec
  cases ht : t.dec
  simp_all [decParts, Part.same]

/-- The parts of the claim unit. -/
def claimParts : List Part :=
  [.pages, .openRun]

theorem SameExcept.claim_eq {l : List Part} {s t : State} (h : SameExcept l s t)
    (hl : ∀ p ∈ claimParts, p ∉ l := by decide) : t.claim = s.claim := by
  have same : ∀ p ∈ claimParts, p.same s t := fun p hp => h p (hl p hp)
  cases hs : s.claim
  cases ht : t.claim
  simp_all [claimParts, Part.same]

/-- The parts of the head driver. -/
def headParts : List Part :=
  [.headHeight, .headCode, .headFire, .headWaiting, .headFaults, .headDisabled, .railGood,
   .railLevel, .railHeld, .railCause]

theorem SameExcept.head_eq {l : List Part} {s t : State} (h : SameExcept l s t)
    (hl : ∀ p ∈ headParts, p ∉ l := by decide) : t.head = s.head := by
  have same : ∀ p ∈ headParts, p.same s t := fun p hp => h p (hl p hp)
  cases hs : s.head
  cases ht : t.head
  simp_all [headParts, Part.same]

/-- The parts of the carrier unit. -/
def carrParts : List Part :=
  [.carrierTable, .pin, .standbyTake, .courseCarrier]

theorem SameExcept.carr_eq {l : List Part} {s t : State} (h : SameExcept l s t)
    (hl : ∀ p ∈ carrParts, p ∉ l := by decide) : t.carr = s.carr := by
  have same : ∀ p ∈ carrParts, p.same s t := fun p hp => h p (hl p hp)
  cases hs : s.carr
  cases ht : t.carr
  simp_all [carrParts, Part.same]

/-- The parts of the line interface. -/
def lineParts : List Part :=
  [.transmitList, .sending, .receiver, .idleTime, .guard, .guardDriven, .guardOff, .health,
   .windowErrors, .cleanWindows]

theorem SameExcept.line_eq {l : List Part} {s t : State} (h : SameExcept l s t)
    (hl : ∀ p ∈ lineParts, p ∉ l := by decide) : t.line = s.line := by
  have same : ∀ p ∈ lineParts, p.same s t := fun p hp => h p (hl p hp)
  cases hs : s.line
  cases ht : t.line
  simp_all [lineParts, Part.same]

/-- The parts of the station control. -/
def ctlParts : List Part :=
  [.straps, .mode, .sticky, .causes, .latch, .firstBad, .history]

theorem SameExcept.ctl_eq {l : List Part} {s t : State} (h : SameExcept l s t)
    (hl : ∀ p ∈ ctlParts, p ∉ l := by decide) : t.ctl = s.ctl := by
  have same : ∀ p ∈ ctlParts, p.same s t := fun p hp => h p (hl p hp)
  cases hs : s.ctl
  cases ht : t.ctl
  simp_all [ctlParts, Part.same]

end Sys2Proof.Machine
end

section
/-! SUPPORT. What a notice can come to at a station (R151, R160, R162), said once: it is taken at its end mark, or
only the receiver, and a clash its marks, change. -/

namespace Sys2Proof.Machine

theorem Frame.of_eq {l : List Part} {s t : State} (same : t = s) : Frame l s t := same ▸ .refl l t

/-- A notice is heard and taken at its end mark, or changes nothing. -/
theorem State.heard_cases (s : State) (f : State → State) :
    (s.hears = true ∧ s.heard f = f s.endMark) ∨ s.heard f = s := by
  cases hears : s.hears with
  | true => exact .inl ⟨rfl, State.heard_of_hears hears f⟩
  | false => exact .inr (State.heard_of_deaf hears f)

/-- An addressed notice is taken by a station that hears it and is its target; any other keeps to the receiver. -/
theorem State.ifAddressed_cases (s : State) (q : BitVec 5) (f : State → State) :
    (s.hears = true ∧ s.addressed q = true ∧ s.ifAddressed q f = f s.endMark) ∨
      Frame noticeParts s (s.ifAddressed q f) := by
  cases mine : s.addressed q with
  | false => exact .inr (ifAddressed_frame_of_elsewhere mine f)
  | true =>
    obtain ⟨hears, heard⟩ | deaf := s.heard_cases fun t => if t.addressed q then f t else t
    · exact .inl ⟨hears, rfl, State.ifAddressed_of_addressed hears mine f⟩
    · exact .inr (Frame.of_eq deaf)

/-- A SPAN or CLOSE is taken by a station that hears it and is of its mask; any other keeps to the receiver. -/
theorem State.ifMasked_cases (s : State) (mask : Flags16) (f : State → State) :
    (s.hears = true ∧ s.inMask mask = true ∧ s.ifMasked mask f = f s.endMark) ∨
      Frame noticeParts s (s.ifMasked mask f) := by
  unfold State.ifMasked
  obtain ⟨hears, heard⟩ | deaf := s.heard_cases fun t => if t.inMask mask then f t else t
  · rw [heard]
    cases mine : s.inMask mask with
    | true => exact .inl ⟨hears, rfl, if_pos mine⟩
    | false =>
      have other : ¬ s.endMark.inMask mask = true := Bool.not_eq_true _ ▸ mine
      exact .inr (by rw [if_neg other]; exact endMark_frame s)
  · exact .inr (Frame.of_eq deaf)

/-- A peer's notice is taken, or it clashes with the own number, or it is not heard. -/
theorem State.fromPeer_cases (s : State) (q : StationNo) (f : State → State) :
    (s.hears = true ∧ q ≠ s.ctl.station ∧ s.fromPeer q f = f s.endMark) ∨
      Frame (clashParts ++ noticeParts) s (s.fromPeer q f) := by
  unfold State.fromPeer
  obtain ⟨hears, heard⟩ | deaf := s.heard_cases fun t => if q = t.ctl.station then t.clash else f t
  · rw [heard]
    by_cases own : q = s.ctl.station
    · exact .inr ((if_pos (c := q = s.endMark.ctl.station) own).symm ▸
        (endMark_frame s).then (clash_frame _))
    · exact .inl ⟨hears, own, if_neg own⟩
  · exact .inr (Frame.of_eq deaf)

/-- The state filter drops a notice in SETUP as early, and lets it through later (R177). -/
theorem State.filtered_cases (s : State) (f : State → State) :
    (s.ctl.mode ≠ .setup ∧ s.filtered f = f s) ∨
      (s.ctl.mode = .setup ∧ s.filtered f = s.bump .earlyNotices) := by
  unfold State.filtered
  split
  · exact .inr ⟨‹_›, rfl⟩
  · exact .inl ⟨‹_›, rfl⟩

end Sys2Proof.Machine
end

section
/-! SUPPORT. A legal edge (R1, R3, R4, R5): the count and the tracker by the tables, and the two ways an edge goes
on, with a direction change or without. -/

namespace Sys2Proof.Machine

/-! ### The tracker -/

theorem Tracker.move_unknown (low high c : Int) : Tracker.move (.unknown low high) c =
    if min low c + 16 ≤ c then (.right c, .established)
    else if c ≤ max high c - 16 then (.left c, .established)
    else (.unknown (min low c) (max high c), .none) := rfl

theorem Tracker.move_right (e c : Int) : Tracker.move (.right e) c =
    if e < c then (.right c, .none)
    else if c ≤ e - 16 then (.left c, .change .left) else (.right e, .none) := rfl

theorem Tracker.move_left (e c : Int) : Tracker.move (.left e) c =
    if c < e then (.left c, .none)
    else if e + 16 ≤ c then (.right c, .change .right) else (.left e, .none) := rfl

/-- The tracker after an edge is the one of the table of R4 and R5. -/
theorem Tracker.move_fst (t : Tracker) (c : Int) : (t.move c).1 = trackerAfter c t := by
  cases t <;> simp only [Tracker.move_unknown, Tracker.move_right, Tracker.move_left, trackerAfter,
    apply_ite Prod.fst]

/-- A direction change is raised where the table of R5 has a turn. -/
theorem Tracker.move_snd (t : Tracker) (c : Int) (dir : Dir) :
    (t.move c).2 = .change dir ↔ turnAt c t = some dir := by
  cases t with
  | unknown low high => simp only [Tracker.move_unknown, turnAt]; split_ifs <;> simp
  | right e =>
    by_cases above : e < c
    · simp [Tracker.move_right, turnAt, above, show ¬ c ≤ e - 16 by omega]
    · simp [Tracker.move_right, turnAt, above, apply_ite Prod.snd, ite_eq_iff]
  | left e =>
    by_cases below : c < e
    · simp [Tracker.move_left, turnAt, below, show ¬ e + 16 ≤ c by omega]
    · simp [Tracker.move_left, turnAt, below, apply_ite Prod.snd, ite_eq_iff]

/-- At a turn the tracker takes the new direction. -/
theorem trackerAfter_dir_of_turn {c : Int} {t : Tracker} {dir : Dir} (turn : turnAt c t = some dir) :
    (trackerAfter c t).dir = some dir := by
  cases t with
  | unknown low high => simp [turnAt] at turn
  | right e =>
    simp only [turnAt, Option.ite_none_right_eq_some, Option.some.injEq] at turn
    obtain ⟨back, rfl⟩ := turn
    simp [trackerAfter, back, show ¬ e < c by omega, Tracker.dir]
  | left e =>
    simp only [turnAt, Option.ite_none_right_eq_some, Option.some.injEq] at turn
    obtain ⟨back, rfl⟩ := turn
    simp [trackerAfter, back, show ¬ c < e by omega, Tracker.dir]

/-! ### The count -/

theorem inRange_iff_counted (c : Int) : inRange c = true ↔ counted c := by
  simp only [inRange, Bool.and_eq_true, decide_eq_true_iff]
  rfl

/-- C moved by `d`, the tracker judging it. -/
def State.counting (s : State) (d : Int) : State :=
  s.setPos { s.pos with c := s.pos.c + d, tracker := trackerAfter (s.pos.c + d) s.pos.tracker }

theorem counting_frame (s : State) (d : Int) : Frame [.posC, .posTracker] s (s.counting d) :=
  .of (.of_blanked rfl)

theorem State.legalEdge_of_limit {s : State} {d : Int} (limit : ¬ counted (s.pos.c + d)) :
    s.legalEdge d = s.setSticky .posLimit := if_neg (mt (inRange_iff_counted _).1 limit)

section Counted
variable {s : State} {d : Int} (inside : counted (s.pos.c + d))
include inside

theorem State.legalEdge_of_counted : s.legalEdge d = s.countTo (s.pos.c + d) :=
  if_pos ((inRange_iff_counted _).2 inside)

/-- At a turn the indices are formed and the direction change follows (R5, R10, R49). -/
theorem State.legalEdge_of_turn {dir : Dir} (turn : turnAt (s.pos.c + d) s.pos.tracker = some dir) :
    s.legalEdge d = (s.counting d).form.directionChange dir := by
  rw [State.legalEdge_of_counted inside]
  unfold State.countTo State.counting
  simp only [Tracker.move_fst, (Tracker.move_snd _ _ _).2 turn]

/-- Without a turn the indices are formed and needles arrive (R10, R17). -/
theorem State.legalEdge_of_straight (straight : turnAt (s.pos.c + d) s.pos.tracker = none) :
    s.legalEdge d = (s.counting d).form.arrivals := by
  rw [State.legalEdge_of_counted inside]
  unfold State.countTo State.counting
  simp only [Tracker.move_fst]
  split
  next dir turned => simp [(Tracker.move_snd _ _ _).1 turned] at straight
  · rfl

end Counted

/-! ### The edge of a pair of levels -/

section Levels
variable {a b : Bool} {s : State}

/-- An edge that the table of R1 gives `d`: nothing but the phase at 0, a legal edge otherwise. -/
theorem exec_encoderEdge_of_quadrature {d : Int}
    (legal : quadrature (s.pos.phaseA, s.pos.phaseB) (a, b) = some d) :
    exec (.encoderEdge a b) s =
      .next (if d = 0 then s.takePhase a b else (s.takePhase a b).legalEdge d) := by
  rw [quadrature_eq_delta_judgeEdge] at legal
  simp only [exec, execEncoderEdge]
  cases edge : judgeEdge s.pos.phaseA s.pos.phaseB a b <;>
    simp_all only [Edge.delta, Option.some.injEq, reduceCtorEq] <;> subst legal <;> rfl

end Levels

/-- What an encoder edge can do: the phase alone, a slip of the decoder, the limit of C, a move without a turn,
or a turn. -/
theorem exec_encoderEdge_cases {a b : Bool} {s t : State} (next : exec (.encoderEdge a b) s = .next t) :
    t = s.takePhase a b ∨
    t = ((s.takePhase a b).setSticky .encoder).bump .encoderErrors ∨
    t = (s.takePhase a b).setSticky .posLimit ∨
    (∃ d, quadrature (s.pos.phaseA, s.pos.phaseB) (a, b) = some d ∧ counted (s.pos.c + d) ∧
      turnAt (s.pos.c + d) s.pos.tracker = none ∧ t = ((s.takePhase a b).counting d).form.arrivals) ∨
    (∃ d dir, quadrature (s.pos.phaseA, s.pos.phaseB) (a, b) = some d ∧ counted (s.pos.c + d) ∧
      turnAt (s.pos.c + d) s.pos.tracker = some dir ∧
      t = ((s.takePhase a b).counting d).form.directionChange dir) := by
  cases legal : quadrature (s.pos.phaseA, s.pos.phaseB) (a, b) with
  | none =>
    rw [quadrature_eq_delta_judgeEdge, Edge.delta_eq_none_iff] at legal
    rw [exec_encoderEdge_of_illegal legal] at next
    exact .inr (.inl (Host.Outcome.next.inj next).symm)
  | some d =>
    rw [exec_encoderEdge_of_quadrature legal] at next
    obtain rfl := Host.Outcome.next.inj next
    by_cases still : d = 0
    · exact .inl (if_pos still)
    rw [if_neg still]
    by_cases inside : counted (s.pos.c + d)
    · cases turn : turnAt (s.pos.c + d) s.pos.tracker with
      | none => exact .inr (.inr (.inr (.inl ⟨d, rfl, inside, turn, State.legalEdge_of_straight inside turn⟩)))
      | some dir =>
        exact .inr (.inr (.inr (.inr ⟨d, dir, rfl, inside, turn,
          State.legalEdge_of_turn (s := s.takePhase a b) inside turn⟩)))
    · exact .inr (.inr (.inl (State.legalEdge_of_limit inside)))

end Sys2Proof.Machine
end

section
/-! SUPPORT. What each notice command comes to: its block takes it at the end mark, or only the receiver, a counter
or the clash marks change. -/

namespace Sys2Proof.Machine

/-- A notice that the state filter drops or lets through, once it is taken at the end mark. -/
theorem State.endMark_filtered_cases (s : State) (f : State → State) :
    (s.ctl.mode ≠ .setup ∧ s.endMark.filtered f = f s.endMark) ∨
      Frame (.counts :: noticeParts) s (s.endMark.filtered f) := by
  obtain passes | ⟨_, early⟩ := s.endMark.filtered_cases f
  · exact .inl passes
  · exact .inr (early ▸ (endMark_frame s).then (bump_frame _ _))

theorem State.ifMasked_filtered_cases (s : State) (mask : Flags16) (f : State → State) :
    (s.ctl.mode ≠ .setup ∧ s.ifMasked mask (fun t => t.filtered f) = f s.endMark) ∨
      Frame (.counts :: noticeParts) s (s.ifMasked mask fun t => t.filtered f) := by
  obtain ⟨_, _, taken⟩ | elsewhere := s.ifMasked_cases mask fun t => t.filtered f
  · rw [taken]
    exact s.endMark_filtered_cases f
  · exact .inr elsewhere.mono

theorem State.ifAddressed_filtered_cases (s : State) (q : BitVec 5) (f : State → State) :
    (s.ctl.mode ≠ .setup ∧ s.ifAddressed q (fun t => t.filtered f) = f s.endMark) ∨
      Frame (.counts :: noticeParts) s (s.ifAddressed q fun t => t.filtered f) := by
  obtain ⟨_, _, taken⟩ | elsewhere := s.ifAddressed_cases q fun t => t.filtered f
  · rw [taken]
    exact s.endMark_filtered_cases f
  · exact .inr elsewhere.mono

theorem exec_span_cases {b : SpanBody} {s t : State} (next : exec (.span b) s = .next t) :
    (s.ctl.mode ≠ .setup ∧ t = s.endMark.takeSpan b) ∨ Frame (.counts :: noticeParts) s t := by
  obtain rfl := Host.Outcome.next.inj next
  exact s.ifMasked_filtered_cases b.mask fun u => u.takeSpan b

theorem exec_close_cases {b : CloseBody} {s t : State} (next : exec (.close b) s = .next t) :
    (s.ctl.mode ≠ .setup ∧ t = s.endMark.takeClose b) ∨ Frame (.counts :: noticeParts) s t := by
  obtain rfl := Host.Outcome.next.inj next
  exact s.ifMasked_filtered_cases b.mask fun u => u.takeClose b

theorem exec_order_cases {q : BitVec 5} {b : OrderBody} {s t : State} (next : exec (.order q b) s = .next t) :
    (s.ctl.mode ≠ .setup ∧ t = s.endMark.takeOrder b) ∨ Frame (.counts :: noticeParts) s t := by
  obtain rfl := Host.Outcome.next.inj next
  exact s.ifAddressed_filtered_cases q fun u => u.takeOrder b

theorem exec_backing_cases {q : BitVec 5} {b : BackingBody} {s t : State}
    (next : exec (.backing q b) s = .next t) :
    (s.ctl.mode ≠ .setup ∧ t = s.endMark.takeBacking b) ∨ Frame (.counts :: noticeParts) s t := by
  obtain rfl := Host.Outcome.next.inj next
  exact s.ifAddressed_filtered_cases q fun u => u.takeBacking b

theorem exec_setup_cases {q : BitVec 5} {b : SetupBody} {s t : State} (next : exec (.setup q b) s = .next t) :
    (∃ r, s.ctl.mode = .setup ∧ SetupBody.firstBad b s.ctl.owner = none ∧
      r = SetupBody.record b s.ctl.owner ∧ t = s.endMark.acceptSetup r) ∨
    Frame (([.sticky, .firstBad] : List Part) ++ noticeParts) s t := by
  obtain rfl := Host.Outcome.next.inj next
  have refused (u : State) (n : Nat) : Frame (([.sticky, .firstBad] : List Part) ++ noticeParts) s (s.endMark.refuseSetup n) :=
    (endMark_frame s).then (refuseSetup_frame _ n)
  obtain ⟨_, _, taken⟩ | elsewhere := s.ifAddressed_cases q fun t => t.takeSetup b
  · rw [taken]
    unfold State.takeSetup
    split
    next cleared =>
      split
      · exact .inr (refused s _)
      next good => exact .inl ⟨_, cleared, good, rfl, rfl⟩
    · exact .inr ((endMark_frame s).then (setSticky_frame _ _))
  · exact .inr elsewhere.mono

/-- A carrier notice of a carrier that exists is taken by the carrier unit. -/
theorem State.withCarrier_cases (s : State) (x : Byte) (f : Fin 16 → State) :
    (∃ c : Fin 16, x.toNat = c.val ∧ s.withCarrier x f = f c) ∨
    (15 < x.toNat ∧ s.withCarrier x f = s.bump .carrierNoticesIgnored) := by
  by_cases named : x.toNat < 16
  · exact .inl ⟨⟨x.toNat, named⟩, rfl, State.withCarrier_of_val rfl s f⟩
  · refine .inr ⟨by omega, ?_⟩
    simp only [State.withCarrier, decodeCarrier, dif_neg named]

theorem State.endMark_withCarrier_cases (s : State) (x : Byte) (f : State → Fin 16 → State) :
    (∃ c, s.endMark.withCarrier x (f s.endMark) = f s.endMark c) ∨
      Frame (.counts :: noticeParts) s (s.endMark.withCarrier x (f s.endMark)) := by
  obtain ⟨c, _, taken⟩ | ⟨_, ignored⟩ := s.endMark.withCarrier_cases x (f s.endMark)
  · exact .inl ⟨c, taken⟩
  · exact .inr (ignored ▸ (endMark_frame s).then (bump_frame _ _))

theorem State.fromPeer_withCarrier_cases (s : State) (q : StationNo) (x : Byte) (f : State → Fin 16 → State) :
    (∃ c, s.fromPeer q (fun t => t.withCarrier x (f t)) = f s.endMark c) ∨
      Frame (.counts :: clashParts ++ noticeParts) s (s.fromPeer q fun t => t.withCarrier x (f t)) := by
  obtain ⟨_, _, heard⟩ | elsewhere := s.fromPeer_cases q fun t => t.withCarrier x (f t)
  · rw [heard]
    exact (s.endMark_withCarrier_cases x f).imp_right (·.mono)
  · exact .inr elsewhere.mono

theorem exec_place_cases {x : Byte} {y : Word16} {s t : State} (next : exec (.place x y) s = .next t) :
    (∃ c, t = s.endMark.takePlace c y) ∨ Frame (.counts :: noticeParts) s t := by
  obtain rfl := Host.Outcome.next.inj next
  obtain ⟨_, heard⟩ | deaf := s.heard_cases fun t => t.withCarrier x fun c => t.takePlace c y
  · rw [heard]
    exact s.endMark_withCarrier_cases x fun t c => t.takePlace c y
  · exact .inr (.of_eq deaf)

theorem exec_take_cases {q : StationNo} {pass : Word16} {x : Byte} {s t : State}
    (next : exec (.take q pass x) s = .next t) :
    (∃ c, t = s.endMark.takeTake q pass c) ∨ Frame (.counts :: clashParts ++ noticeParts) s t := by
  obtain rfl := Host.Outcome.next.inj next
  exact s.fromPeer_withCarrier_cases q x fun t c => t.takeTake q pass c

theorem exec_pick_cases {q : StationNo} {pass : Word16} {x : Byte} {s t : State}
    (next : exec (.pick q pass x) s = .next t) :
    (∃ c, t = s.endMark.takePick q pass c) ∨ Frame (.counts :: clashParts ++ noticeParts) s t := by
  obtain rfl := Host.Outcome.next.inj next
  exact s.fromPeer_withCarrier_cases q x fun t c => t.takePick q pass c

theorem exec_park_cases {q : StationNo} {pass : Word16} {x : Byte} {y : Word16} {s t : State}
    (next : exec (.park q pass x y) s = .next t) :
    (∃ c, t = s.endMark.takePark pass c y) ∨ Frame (.counts :: clashParts ++ noticeParts) s t := by
  obtain rfl := Host.Outcome.next.inj next
  exact s.fromPeer_withCarrier_cases q x fun t c => t.takePark pass c y

theorem exec_claim_cases {q : StationNo} {b : ClaimBody} {s t : State} (next : exec (.claim q b) s = .next t) :
    t = s.endMark.takeClaim q b ∨ Frame (clashParts ++ noticeParts) s t := by
  obtain rfl := Host.Outcome.next.inj next
  obtain ⟨_, _, heard⟩ | elsewhere := s.fromPeer_cases q fun t => t.takeClaim q b
  · exact .inl heard
  · exact .inr elsewhere

theorem exec_noticeSent_cases {s t : State} (next : exec .noticeSent s = .next t) :
    t = s ∨ ∃ n, s.line.sending = some n ∧ t = (s.setLine (s.line.drop n)).endMark.toldSent n := by
  simp only [exec, execNoticeSent] at next
  split at next
  · exact .inl (Host.Outcome.next.inj next).symm
  next n sending => exact .inr ⟨n, sending, (Host.Outcome.next.inj next).symm⟩

/-- The line with its notice lost to the guard (R157, R164). -/
def State.guardLost (s : State) (n : Notice) : State :=
  ((s.setLine { s.line.drop n with guardCut := true, driven := Config.guardLimit }).bump .guardCuts).raise .guardCut

theorem guardLost_frame (s : State) (n : Notice) :
    Frame [.transmitList, .sending, .guardOff, .guard, .guardDriven, .counts, .causes, .latch] s
      (s.guardLost n) := by
  have cut : Frame [.transmitList, .sending, .guardOff, .guard, .guardDriven] s
      (s.setLine { s.line.drop n with guardCut := true, driven := Config.guardLimit }) :=
    .of (.of_blanked rfl)
  exact (cut.then (bump_frame _ .guardCuts)
    (n := [.transmitList, .sending, .guardOff, .guard, .guardDriven, .counts])).then (raise_frame _ .guardCut)

theorem exec_guardCut_of_quiet {s : State} (quiet : s.line.sending = none) : exec .guardCut s = .next s := by
  simp only [exec, execGuardCut, quiet]

theorem exec_guardCut_of_sending {s : State} {n : Notice} (sending : s.line.sending = some n) :
    exec .guardCut s = .next ((s.guardLost n).toldLost n) := by
  simp only [exec, execGuardCut, sending]
  rfl

end Sys2Proof.Machine
end

section
/-! PROOF. What every step keeps of the flags, the latch, the level causes, the straps and the station state, by
the footprints (O2) and by what the few commands do that a footprint leaves room for (O1, O3, O4, O5). -/

namespace Sys2Proof.Machine

/-- Settles O1: the two branches of the step. -/
theorem stepRunsTheFrontCommand : Obligations.StepRunsTheFrontCommand := by
  refine fun s => ⟨fun c cs front => ?_, fun empty => ?_⟩
  · simp only [step, front]
  · simp only [step, empty]

/-! ### The commands that lower something -/

/-- The commands that lower a flag, a cause, the latch or a counter. -/
inductive Lowering : Instr → Prop
  | clearStop (q : BitVec 5) : Lowering (.clearStop q)
  | clearSticky (q : BitVec 5) : Lowering (.clearSticky q)
  | queryPage1 (q : BitVec 5) (x : Byte) : Lowering (.queryPage1 q x)
  | hardReset (x : BitVec 6) (a b r : Bool) : Lowering (.hardReset x a b r)

theorem lowering_of_lowers {c : Instr} (lowering : lowers c = true) : Lowering c := by
  cases c with
  | clearStop q => exact .clearStop q
  | clearSticky q => exact .clearSticky q
  | queryPage1 q x => exact .queryPage1 q x
  | hardReset x a b r => exact .hardReset x a b r
  | _ => exact nomatch lowering

theorem State.clearLatch_of_held {s : State} (holds : s.levelHolds = true) : s.clearLatch = s := if_pos holds

theorem State.clearLatch_of_free {s : State} (free : s.levelHolds = false) :
    s.clearLatch = s.setCtl { s.ctl with latch := false } := if_neg (by simp [free])

/-- What a clear-stop does: nothing but to the receiver, or the latch released with no level cause holding. -/
theorem exec_clearStop_cases {q : BitVec 5} {s t : State} (next : exec (.clearStop q) s = .next t) :
    t.ctl = s.ctl ∨
    (s.addressed q = true ∧ s.levelHolds = false ∧ t.ctl = { s.ctl with latch := false }) := by
  obtain rfl := Host.Outcome.next.inj next
  obtain ⟨_, mine, taken⟩ | deaf := s.ifAddressed_cases q fun t => t.clearLatch
  · rw [taken]
    cases holds : s.endMark.levelHolds with
    | true => exact .inl (by rw [State.clearLatch_of_held holds]; rfl)
    | false => exact .inr ⟨mine, holds, congrArg State.ctl (State.clearLatch_of_free holds)⟩
  · exact .inl deaf.same.ctl_eq

/-- What a clear-sticky does to station control: nothing, or what R186 says. -/
theorem exec_clearSticky_cases {q : BitVec 5} {s t : State} (next : exec (.clearSticky q) s = .next t) :
    t.ctl = s.ctl ∨
    (s.addressed q = true ∧ t.ctl = { s.ctl with
      sticky := 0, firstBad := none, causes := s.ctl.causes &&& s.levelCauses }) := by
  obtain rfl := Host.Outcome.next.inj next
  obtain ⟨_, mine, taken⟩ | deaf := s.ifAddressed_cases q fun t => t.clearFlags
  · exact .inr ⟨mine, congrArg State.ctl taken⟩
  · exact .inl deaf.same.ctl_eq

/-- The counters rise over an answer to a QUERY, but where its clear flag zeroes them first (R188). -/
theorem exec_queryPage1_cases {q : BitVec 5} {x : Byte} {s t : State}
    (next : exec (.queryPage1 q x) s = .next t) :
    Rises s t ∨ (s.addressed q = true ∧ x ≠ 0) := by
  obtain rfl := Host.Outcome.next.inj next
  obtain ⟨_, mine, taken⟩ | deaf := s.ifAddressed_cases q fun t => t.answerPage1 (isSet x)
  · by_cases plain : x = 0
    · subst plain
      rw [taken]
      exact .inl ((endMark_frame s).rises.then (offerParts_frame 1 0 _ _).rises)
    · exact .inr ⟨mine, plain⟩
  · exact .inl deaf.rises

/-! ### Recorded causes and the latch -/

theorem getLsbD_causeMark (b : Bool) (c k : StopCause) :
    (if b then BitVec.twoPow 13 c.idx else 0).getLsbD k.idx = (b && decide (c = k)) := by
  cases b <;> simp [BitVec.getLsbD_twoPow, c.idx_lt, StopCause.idx_inj]

/-- The recorded causes that a clear-sticky leaves are those whose level holds (R186). -/
theorem getLsbD_levelCauses (s : State) (k : StopCause) :
    s.levelCauses.getLsbD k.idx =
      ((s.head.disabled && decide (.headDisabled = k)) || (s.head.railCause && decide (.railLow = k)) ||
        (s.line.guardCut && decide (.guardCut = k))) := by
  simp only [State.levelCauses, BitVec.getLsbD_or, getLsbD_causeMark]

/-- A command that records a stop cause leaves the latch set (R184, R185). -/
theorem exec_latched {c : Instr} {s t : State} (next : exec c s = .next t) (k : StopCause)
    (new : s.isRecorded k = false) (recorded : t.isRecorded k = true) : t.ctl.latch = true := by
  cases rising : lowers c with
  | false => exact (exec_rises next rising).latched k new recorded
  | true =>
    have notFallen : ¬ t.isRecorded k = false := by simp [recorded]
    obtain ⟨q⟩ | ⟨q⟩ | ⟨q, x⟩ | ⟨x, a, b, r⟩ := lowering_of_lowers rising
    · obtain same | ⟨_, _, released⟩ := exec_clearStop_cases next
      · exact absurd (by simp_all [State.isRecorded]) notFallen
      · exact absurd (by simp_all [State.isRecorded]) notFallen
    · obtain same | ⟨_, cleared⟩ := exec_clearSticky_cases next
      · exact absurd (by simp_all [State.isRecorded]) notFallen
      · exact absurd (by simp_all [State.isRecorded]) notFallen
    · have same : t.ctl.causes = s.ctl.causes := exec_same next .causes (by simp only [footprint]; decide)
      exact absurd (by simp_all [State.isRecorded]) notFallen
    · obtain rfl := Host.Outcome.next.inj next
      exact absurd (by simp [State.isRecorded, State.hardReset, State.afterReset]) notFallen

/-- The latch falls at a clear-stop with no level cause holding, or at a hard reset (R185, R186). -/
theorem exec_latch_falls {c : Instr} {s t : State} (next : exec c s = .next t)
    (set : s.ctl.latch = true) (clear : t.ctl.latch = false) :
    (∃ q, c = .clearStop q ∧ s.addressed q = true ∧ s.levelHolds = false) ∨
    (∃ x a b r, c = .hardReset x a b r) := by
  have notSame : ¬ t.ctl.latch = s.ctl.latch := by simp [set, clear]
  cases rising : lowers c with
  | false => exact absurd ((exec_rises next rising).latch set) (by simp [clear])
  | true =>
    obtain ⟨q⟩ | ⟨q⟩ | ⟨q, x⟩ | ⟨x, a, b, r⟩ := lowering_of_lowers rising
    · obtain same | ⟨mine, free, _⟩ := exec_clearStop_cases next
      · exact absurd (by rw [same]) notSame
      · exact .inl ⟨q, rfl, mine, free⟩
    · exact absurd (exec_same next .latch (by simp only [footprint]; decide)) notSame
    · exact absurd (exec_same next .latch (by simp only [footprint]; decide)) notSame
    · exact .inr ⟨x, a, b, r, rfl⟩

/-! ### The level causes -/

theorem headDisabled_mem_footprint {c : Instr} (touched : .headDisabled ∈ footprint c) :
    c = .fireDeadline ∨ (∃ q, c = .reset q) ∨ ∃ x a b r, c = .hardReset x a b r := by
  cases c with
  | fireDeadline => exact .inl rfl
  | reset q => exact .inr (.inl ⟨q, rfl⟩)
  | hardReset x a b r => exact .inr (.inr ⟨x, a, b, r, rfl⟩)
  | _ => exact nomatch decide_eq_true touched

theorem railCause_mem_footprint {c : Instr} (touched : .railCause ∈ footprint c) :
    c = .railFilterExpiry ∨ ∃ x a b r, c = .hardReset x a b r := by
  cases c with
  | railFilterExpiry => exact .inl rfl
  | hardReset x a b r => exact .inr ⟨x, a, b, r, rfl⟩
  | _ => exact nomatch decide_eq_true touched

theorem guard_mem_footprint {c : Instr} (touched : .guard ∈ footprint c) :
    c = .guardCut ∨ c = .guardReturn ∨ ∃ x a b r, c = .hardReset x a b r := by
  cases c with
  | guardCut => exact .inl rfl
  | guardReturn => exact .inr (.inl rfl)
  | hardReset x a b r => exact .inr (.inr ⟨x, a, b, r, rfl⟩)
  | _ => exact nomatch decide_eq_true touched

theorem mode_mem_footprint {c : Instr} (touched : .mode ∈ footprint c) :
    c = .referenceMark ∨ (∃ q b, c = .setup q b) ∨ ∃ x a b r, c = .hardReset x a b r := by
  cases c with
  | referenceMark => exact .inl rfl
  | setup q b => exact .inr (.inl ⟨q, b, rfl⟩)
  | hardReset x a b r => exact .inr (.inr ⟨x, a, b, r, rfl⟩)
  | _ => exact nomatch decide_eq_true touched

theorem straps_mem_footprint {c : Instr} (touched : .straps ∈ footprint c) :
    ∃ x a b r, c = .hardReset x a b r := by
  cases c with
  | hardReset x a b r => exact ⟨x, a, b, r, rfl⟩
  | _ => exact nomatch decide_eq_true touched

/-! ### A fire deadline -/

/-- The fault count has reached the fault limit of the setup record (R118). -/
def State.faultLimitReached (s : State) : Bool := s.param (fun r => decide (r.faultLimit ≤ s.head.faults)) false

theorem State.judgeFaults_disabled (s : State) :
    s.judgeFaults.head.disabled = (s.head.disabled || s.faultLimitReached) := by
  unfold State.judgeFaults State.faultLimitReached
  split <;> simp_all [State.raise]

/-- The fire of the head ended at its deadline, flagged and counted (R114, R118). -/
def State.fireFaulted (s : State) : State :=
  ((s.setHead { s.head with height := none, fire := none, faults := s.head.faults + 1 }).setSticky
    .fireFault).bump .fireDeadlines

theorem exec_fireDeadline_of_fire {s : State} {f : Fire} (firing : s.head.fire = some f) :
    exec .fireDeadline s = .next ((s.fireFaulted.answerIf f.needle .fault).judgeFaults).serve := by
  simp only [exec, execFireDeadline, firing]
  rfl

theorem exec_fireDeadline_of_idle {s : State} (idle : s.head.fire = none) : exec .fireDeadline s = .next s := by
  simp only [exec, execFireDeadline, idle]

/-- A fire deadline does not enable the head. -/
theorem exec_fireDeadline_disabled {s t : State} (next : exec .fireDeadline s = .next t)
    (disabled : s.head.disabled = true) : t.head.disabled = true := by
  cases firing : s.head.fire with
  | none =>
    rw [exec_fireDeadline_of_idle firing] at next
    exact Host.Outcome.next.inj next ▸ disabled
  | some f =>
    rw [exec_fireDeadline_of_fire firing] at next
    obtain rfl := Host.Outcome.next.inj next
    have answered : (s.fireFaulted.answerIf f.needle .fault).head.disabled = true :=
      ((answerIf_frame _ _ _).get .headDisabled).trans disabled
    rw [show _ = _ from (serve_frame _).get .headDisabled, State.judgeFaults_disabled, answered, Bool.true_or]

/-! ### The ends of the level causes -/

theorem exec_reset_cases {q : BitVec 5} {s t : State} (next : exec (.reset q) s = .next t) :
    (s.hears = true ∧ s.addressed q = true ∧ t = s.endMark.courseReset) ∨ Frame noticeParts s t := by
  obtain rfl := Host.Outcome.next.inj next
  exact s.ifAddressed_cases q fun t => t.courseReset

section LevelCauses
variable {c : Instr} {s t : State} (next : exec c s = .next t) (noHardReset : ∀ x a b r, c ≠ .hardReset x a b r)
include next noHardReset

theorem exec_headDisabled_falls (before : s.head.disabled = true) (after : t.head.disabled = false) :
    ∃ q, c = .reset q ∧ s.addressed q = true := by
  have touched : Part.headDisabled ∈ footprint c := by
    by_contra outside
    exact absurd (exec_same next .headDisabled outside) (by simp [Part.same, before, after])
  obtain rfl | ⟨q, rfl⟩ | ⟨x, a, b, r, rfl⟩ := headDisabled_mem_footprint touched
  · exact absurd (exec_fireDeadline_disabled next before) (by simp [after])
  · obtain ⟨_, mine, _⟩ | elsewhere := exec_reset_cases next
    · exact ⟨q, rfl, mine⟩
    · exact absurd (elsewhere.get .headDisabled) (by simp [Part.same, before, after])
  · exact absurd rfl (noHardReset x a b r)

theorem exec_railCause_falls (before : s.head.railCause = true) (after : t.head.railCause = false) :
    c = .railFilterExpiry := by
  have touched : Part.railCause ∈ footprint c := by
    by_contra outside
    exact absurd (exec_same next .railCause outside) (by simp [Part.same, before, after])
  obtain expiry | ⟨x, a, b, r, rfl⟩ := railCause_mem_footprint touched
  · exact expiry
  · exact absurd rfl (noHardReset x a b r)

theorem exec_guardCut_falls (before : s.line.guardCut = true) (after : t.line.guardCut = false) :
    c = .guardReturn := by
  have touched : Part.guard ∈ footprint c := by
    by_contra outside
    exact absurd (exec_same next .guard outside) (by simp [Part.same, before, after])
  obtain rfl | returned | ⟨x, a, b, r, rfl⟩ := guard_mem_footprint touched
  · cases sending : s.line.sending with
    | none =>
      simp only [exec, execGuardCut, sending, Host.Outcome.next.injEq] at next
      simp [← next, before] at after
    | some n =>
      simp only [exec, execGuardCut, sending, Host.Outcome.next.injEq] at next
      rw [← next, show _ = _ from (toldLost_frame _ n).get .guard] at after
      exact nomatch after
  · exact returned
  · exact absurd rfl (noHardReset x a b r)

end LevelCauses

/-- Settles O3: what a frame lets rise does not fall, and the few commands left are looked at. -/
theorem stopCausesHoldTheLatchUntilTheirEnd : Obligations.StopCausesHoldTheLatchUntilTheirEnd := by
  refine ⟨fun c s t next => ⟨fun k => exec_latched next k, fun set clear => ?_⟩,
    fun c s t next noHardReset => ⟨exec_headDisabled_falls next noHardReset,
      exec_railCause_falls next noHardReset, exec_guardCut_falls next noHardReset⟩⟩
  obtain ⟨q, rfl, mine, free⟩ | reset := exec_latch_falls next set clear
  · simp only [State.levelHolds, Bool.or_eq_false_iff] at free
    obtain ⟨⟨enabled, rail⟩, guard⟩ := free
    exact .inl ⟨q, rfl, mine, enabled, rail, guard⟩
  · exact .inr reset

/-! ### The station state -/

/-- What a SETUP does to the station state: nothing, or READY with the record out of SETUP (R178 to R180). -/
theorem exec_setup_mode {q : BitVec 5} {b : SetupBody} {s t : State} (next : exec (.setup q b) s = .next t) :
    t.ctl.mode = s.ctl.mode ∨
    (s.addressed q = true ∧ s.ctl.mode = .setup ∧ ∃ r, t.ctl.mode = .ready r) := by
  obtain rfl := Host.Outcome.next.inj next
  obtain ⟨_, mine, taken⟩ | elsewhere := s.ifAddressed_cases q fun t => t.takeSetup b
  · rw [taken]
    unfold State.takeSetup
    split
    next cleared =>
      split
      · exact .inl ((refuseSetup_frame _ _).get .mode)
      · exact .inr ⟨mine, cleared, _, rfl⟩
    · exact .inl rfl
  · exact .inl (elsewhere.get .mode)

/-- A reference load moves READY to RUN (R8, R176). -/
theorem State.loadReference_mode (s : State) (r : SetupRec) :
    (s.loadReference r).ctl.mode = s.ctl.mode.referenced := by
  unfold State.loadReference
  rw [show _ = _ from (arrivals_frame _).get .mode, show _ = _ from (form_frame _).get .mode]
  exact congrArg Mode.referenced ((checkSlip_frame s r).get .mode)

theorem exec_referenceMark_mode {s t : State} (next : exec .referenceMark s = .next t) :
    t.ctl.mode = s.ctl.mode ∨ ∃ r, s.ctl.mode = .ready r ∧ t.ctl.mode = .run r := by
  simp only [exec, execReferenceMark] at next
  split at next
  next r _ taken =>
    obtain rfl := Host.Outcome.next.inj next
    rw [State.loadReference_mode]
    cases mode : s.ctl.mode with
    | setup => exact .inl rfl
    | ready r' => exact .inr ⟨r', rfl, rfl⟩
    | run r' => exact .inl rfl
  · exact .inl (congrArg (·.ctl.mode) (Host.Outcome.next.inj next).symm)

/-- The ways in which the station state changes (R176, R178, R181). -/
theorem exec_mode_changes {c : Instr} {s t : State} (next : exec c s = .next t)
    (changed : t.ctl.mode ≠ s.ctl.mode) :
    (∃ q b r, c = .setup q b ∧ s.addressed q = true ∧ s.ctl.mode = .setup ∧ t.ctl.mode = .ready r) ∨
    (∃ r, c = .referenceMark ∧ s.ctl.mode = .ready r ∧ t.ctl.mode = .run r) ∨
    (∃ x a b r, c = .hardReset x a b r ∧ t.ctl.mode = .setup) := by
  have touched : Part.mode ∈ footprint c := by
    by_contra outside
    exact changed (exec_same next .mode outside)
  obtain rfl | ⟨q, b, rfl⟩ | ⟨x, a, b, r, rfl⟩ := mode_mem_footprint touched
  · obtain same | ⟨r, ready, run⟩ := exec_referenceMark_mode next
    · exact absurd same changed
    · exact .inr (.inl ⟨r, rfl, ready, run⟩)
  · obtain same | ⟨mine, cleared, r, ready⟩ := exec_setup_mode next
    · exact absurd same changed
    · exact .inl ⟨q, b, r, rfl, mine, cleared, ready⟩
  · obtain rfl := Host.Outcome.next.inj next
    exact .inr (.inr ⟨x, a, b, r, rfl, rfl⟩)

/-- Settles O4: by the ways in which the station state changes. -/
theorem stationStateMovesOnlyForward : Obligations.StationStateMovesOnlyForward := by
  refine fun c s t next => ⟨exec_mode_changes next, fun noHardReset => ?_⟩
  have straps : Part.straps ∉ footprint c := fun touched =>
    have ⟨x, a, b, r, reset⟩ := straps_mem_footprint touched
    noHardReset x a b r reset
  obtain ⟨station, bed, owner⟩ := exec_same next .straps straps
  refine ⟨station, bed, owner, fun r taken => ?_⟩
  by_cases changed : t.ctl.mode = s.ctl.mode
  · simpa [State.setup?, changed] using taken
  obtain ⟨_, _, _, _, _, cleared, _⟩ | ⟨r', _, ready, run⟩ | ⟨x, a, b, r, reset, _⟩ :=
    exec_mode_changes next changed
  · simp [State.setup?, cleared, Mode.setup?] at taken
  · simpa [State.setup?, ready, run, Mode.setup?] using taken
  · exact absurd reset (noHardReset x a b r)

/-! ### What falls, and where -/

/-- The ways in which a sticky flag or a recorded cause falls: R186 with the level causes kept, and R181. -/
theorem exec_flag_falls {c : Instr} {s t : State} (next : exec c s = .next t)
    (falls : (∃ f, s.isSticky f = true ∧ t.isSticky f = false) ∨
      ∃ k, s.isRecorded k = true ∧ t.isRecorded k = false) :
    (∃ q, c = .clearSticky q ∧ s.addressed q = true ∧
      t.ctl.causes = s.ctl.causes &&& s.levelCauses) ∨ ∃ x a b r, c = .hardReset x a b r := by
  have notSame : ¬ (t.ctl.sticky = s.ctl.sticky ∧ t.ctl.causes = s.ctl.causes) := by
    rintro ⟨sticky, causes⟩
    obtain ⟨f, set, clear⟩ | ⟨k, set, clear⟩ := falls <;>
      simp_all [State.isSticky, State.isRecorded]
  cases rising : lowers c with
  | false =>
    have rises := exec_rises next rising
    obtain ⟨f, set, clear⟩ | ⟨k, set, clear⟩ := falls
    · exact absurd (rises.sticky f set) (by simp [clear])
    · exact absurd (rises.causes k set) (by simp [clear])
  | true =>
    obtain ⟨q⟩ | ⟨q⟩ | ⟨q, x⟩ | ⟨x, a, b, r⟩ := lowering_of_lowers rising
    · exact absurd ⟨exec_same next .sticky (by simp only [footprint]; decide),
        exec_same next .causes (by simp only [footprint]; decide)⟩ notSame
    · obtain same | ⟨mine, cleared⟩ := exec_clearSticky_cases next
      · exact absurd (by simp [same]) notSame
      · exact .inl ⟨q, rfl, mine, by rw [cleared]⟩
    · exact absurd ⟨exec_same next .sticky (by simp only [footprint]; decide),
        exec_same next .causes (by simp only [footprint]; decide)⟩ notSame
    · exact .inr ⟨x, a, b, r, rfl⟩

/-- A status counter falls at a QUERY of page 1 with the clear flag, or at a hard reset (R188). -/
theorem exec_count_falls {c : Instr} {s t : State} {k : Counter} (next : exec c s = .next t)
    (fits : s.count k ≤ 65535) (falls : t.count k < s.count k) :
    (∃ q x, c = .queryPage1 q x ∧ s.addressed q = true ∧ x ≠ 0) ∨ ∃ x a b r, c = .hardReset x a b r := by
  have notRises (rises : Rises s t) : False := absurd (rises.counts k fits).1 (by omega)
  cases rising : lowers c with
  | false => exact (notRises (exec_rises next rising)).elim
  | true =>
    have notSame : ¬ t.counts = s.counts := fun same => by simp [State.count, same] at falls
    obtain ⟨q⟩ | ⟨q⟩ | ⟨q, x⟩ | ⟨x, a, b, r⟩ := lowering_of_lowers rising
    · exact absurd (exec_same next .counts (by simp only [footprint]; decide)) notSame
    · exact absurd (exec_same next .counts (by simp only [footprint]; decide)) notSame
    · obtain rises | ⟨mine, flag⟩ := exec_queryPage1_cases next
      · exact (notRises rises).elim
      · exact .inl ⟨q, x, rfl, mine, flag⟩
    · exact .inr ⟨x, a, b, r, rfl⟩

/-- Settles O5: a clear-sticky keeps the mark of each level that holds. -/
theorem flagsAndCountersFallOnlyAtTheirClears : Obligations.FlagsAndCountersFallOnlyAtTheirClears := by
  refine ⟨fun c s t next falls => ?_, fun c s t k next => exec_count_falls next⟩
  obtain ⟨q, rfl, mine, cleared⟩ | reset := exec_flag_falls next falls
  · have kept (k : StopCause) : t.isRecorded k = (s.isRecorded k && s.levelCauses.getLsbD k.idx) := by
      simp only [State.isRecorded, cleared, BitVec.getLsbD_and]
    refine .inl ⟨q, rfl, mine, ?_, ?_, ?_⟩ <;> intro holds recorded <;>
      simp [kept, recorded, getLsbD_levelCauses, holds]
  · exact .inr reset

end Sys2Proof.Machine
end

section
/-! SUPPORT. The direction change event (R49, R50): what it is made of in RUN, and the context it makes ACTIVE. -/

namespace Sys2Proof.Machine

/-! ### The end of the running course -/

/-- The running course ended, if one runs (R49). -/
def State.ended (s : State) : State :=
  match s.course.active with
  | some a => s.endCourse a
  | none => s

theorem State.ended_of_running {s : State} {a : Active} (running : s.course.active = some a) :
    s.ended = s.endCourse a := by
  simp only [State.ended, running]

theorem State.ended_of_noCourse {s : State} (noCourse : s.course.active = none) : s.ended = s := by
  simp only [State.ended, noCourse]

theorem ended_frame (s : State) : Frame endParts s s.ended := by
  unfold State.ended
  split
  · exact endCourse_frame s _
  · exact .refl _ s

/-- No course is ACTIVE once the running one has ended. -/
theorem State.ended_active (s : State) : s.ended.course.active = none := by
  cases active : s.course.active with
  | none => rwa [State.ended_of_noCourse active]
  | some a => rw [State.ended_of_running active]; rfl

theorem State.directionChange_of_run {s : State} {r : SetupRec} (run : s.ctl.mode = .run r) (dir : Dir) :
    s.directionChange dir = (s.ended.startCourse dir).openFrontier := by
  simp only [State.directionChange, run]
  rfl

theorem State.directionChange_of_notRun {s : State} (notRun : ∀ r, s.ctl.mode ≠ .run r) (dir : Dir) :
    s.directionChange dir = s := by
  unfold State.directionChange
  split
  · rfl
  · rfl
  · exact absurd ‹_› (notRun _)

/-! ### The start of the new one -/

/-- A course flag set when `b` says so. -/
def State.flagWhen (s : State) (b : Bool) (f : CourseFlag) : State := if b then s.setCourseFlag f else s

theorem flagWhen_frame (s : State) (b : Bool) (f : CourseFlag) :
    Frame [.courseFlags, .causes, .latch] s (s.flagWhen b f) := .ite (setCourseFlag_frame s f) (.refl _ s)

/-- PASS SKEW judged at a course start (R53). -/
def State.skewJudged (s : State) (dir : Dir) : State :=
  if s.course.skewed (s.course.nextActive dir) then s.setSticky .passSkew else s

theorem skewJudged_frame (s : State) (dir : Dir) : Frame [.sticky] s (s.skewJudged dir) :=
  .ite (setSticky_frame s _) (.refl _ s)

/-- The new context ACTIVE, the expected pass renewed, flags and counters begun anew (R50 to R54). -/
def State.begun (s : State) (dir : Dir) : State :=
  (s.skewJudged dir).setCourse { s.course with
    standby := none, active := some (s.course.nextActive dir),
    expected := some ((s.course.nextActive dir).order.pass + 1),
    flags := 0, tally := ⟨0, 0, 0, 0, 0, 0, 0⟩ }

theorem State.activate_eq (s : State) (dir : Dir) :
    s.activate dir =
      (((s.begun dir).flagWhen (s.course.nextActive dir).starved .starve).flagWhen
        (s.course.mismatched dir) .direction).flagWhen s.line.degraded .lineDegraded := rfl

/-- The flags of the start, on top of the context made ACTIVE. -/
theorem begun_activate_frame (s : State) (dir : Dir) :
    Frame [.courseFlags, .causes, .latch] (s.begun dir) (s.activate dir) :=
  ((flagWhen_frame _ _ _).then (flagWhen_frame _ _ _) (n := [.courseFlags, .causes, .latch])).then
    (flagWhen_frame _ _ _)

theorem State.activate_active (s : State) (dir : Dir) :
    (s.activate dir).course.active = some (s.course.nextActive dir) := (begun_activate_frame s dir).get .active

theorem startCourse_after_activate_frame (s : State) (dir : Dir) :
    Frame (([.backingTable, .backingShadow, .backingPhase, .orderQueue, .standby, .standbyTake, .transmitList,
      .counts] : List Part) ++ contextParts) (s.activate dir) (s.startCourse dir) :=
  ((loadBacking_frame _ _).then (handContext_frame _ _)
    (n := ([.backingTable, .backingShadow, .backingPhase, .orderQueue, .standby, .standbyTake, .transmitList,
      .counts] : List Part) ++ contextParts)).then (prime_frame _)

theorem State.startCourse_active (s : State) (dir : Dir) :
    (s.startCourse dir).course.active = some (s.course.nextActive dir) :=
  ((startCourse_after_activate_frame s dir).get .active).trans (s.activate_active dir)

theorem State.directionChange_active {s : State} {r : SetupRec} (run : s.ctl.mode = .run r) (dir : Dir) :
    (s.directionChange dir).course.active = some (s.ended.course.nextActive dir) := by
  rw [State.directionChange_of_run run, show _ = _ from (openFrontier_frame _).get .active,
    State.startCourse_active]

end Sys2Proof.Machine
end

section
/-! SUPPORT. The course reset (R182), cut where the transmit list is empty: what comes after it is the carrier
unit's, the position unit's and the history's. -/

namespace Sys2Proof.Machine

/-- A course reset up to the line interface (R40, R63, R86, R99, R125, R158). -/
def State.clearedBlocks (s : State) : State :=
  s.resetCourse.resetRows.resetClaims.resetHead.resetLine

theorem State.courseReset_eq (s : State) :
    s.courseReset = s.clearedBlocks.resetCarriers.resetPosition.resetHistory := rfl

theorem resetCarriers_frame_of_empty (s : State) (empty : s.line.list = []) :
    Frame [.carrierTable, .standbyTake, .courseCarrier, .pin, .transmitList] s s.resetCarriers := by
  have table : Frame [.carrierTable, .standbyTake, .courseCarrier] s (s.setCarr { s.carr with
      table := Vector.replicate 16 ⟨.unknown, none⟩, standbyTake := none, course := none }) :=
    .of (.of_blanked rfl)
  exact table.then (resetPin_frame_of_empty _ empty)

theorem resetPosition_frame (s : State) : Frame [.posFrontier, .posRacking, .posIndices] s s.resetPosition := by
  have frontier : Frame [.posFrontier, .posRacking] s
      (s.setPos { s.pos with frontier := none, racking := 0 }) :=
    .of (.of_blanked rfl)
  exact frontier.then (reindex_frame _)

theorem resetHistory_frame (s : State) : Frame [.history] s s.resetHistory :=
  .of (.of_blanked rfl)

/-- What a course reset changes after the line interface's part. -/
theorem clearedBlocks_courseReset_frame (s : State) :
    Frame [.carrierTable, .standbyTake, .courseCarrier, .pin, .transmitList, .posFrontier, .posRacking,
      .posIndices, .history] s.clearedBlocks s.courseReset :=
  ((resetCarriers_frame_of_empty _ rfl).then (resetPosition_frame _)
    (n := [.carrierTable, .standbyTake, .courseCarrier, .pin, .transmitList, .posFrontier, .posRacking,
      .posIndices])).then (resetHistory_frame _)

theorem State.courseReset_course (s : State) : s.courseReset.course = s.resetCourse.course :=
  (clearedBlocks_courseReset_frame s).same.course_eq

end Sys2Proof.Machine
end

section
/-! PROOF. A course starts at a turn in RUN and ends in NONE at a reset only (R49, R63). -/

namespace Sys2Proof.Machine

/-- A row that becomes ready starts and ends no course (R48). -/
theorem State.rowReady_running (s : State) (row : Word16) : (s.rowReady row).running = s.running :=
  Option.isSome_map

/-- Slots, counters and flags have changed, and with that a row may have become ready. -/
def MayReady (s t : State) : Prop :=
  ∃ u, Frame [.rowSlots, .counts, .sticky] s u ∧ (t = u ∨ ∃ row, t = u.rowReady row)

theorem MayReady.of_frame {s t : State} (h : Frame [.rowSlots, .counts, .sticky] s t) : MayReady s t :=
  ⟨t, h, .inl rfl⟩

theorem MayReady.after {s t u : State} (h : Frame [.rowSlots, .counts, .sticky] s t) (k : MayReady t u) :
    MayReady s u := by
  obtain ⟨v, frame, last⟩ := k
  exact ⟨v, h.then frame, last⟩

theorem mayReady_damageSlot (s : State) (i : Fin 4) (x : Slot) : MayReady s (s.damageSlot i x) :=
  ⟨_, (put_frame s i _).then (bump_frame _ _), .inr ⟨x.row, rfl⟩⟩

theorem mayReady_insertSpan (s : State) (i : Fin 4) (x : Slot) (body : SpanBody) :
    MayReady s (s.insertSpan i x body) := by
  unfold State.insertSpan
  dsimp only
  split_ifs
  · exact .of_frame (bump_frame s _).mono
  · exact .of_frame (put_frame s i _).mono
  · exact mayReady_damageSlot s i x

theorem mayReady_spanInto (s : State) (i : Fin 4) (body : SpanBody) : MayReady s (s.spanInto i body) := by
  unfold State.spanInto
  split
  · exact .of_frame (.refl _ s)
  · split_ifs
    · exact .after (put_frame s i _).mono (mayReady_insertSpan _ _ _ _)
    · exact .of_frame (bump_frame s _).mono

theorem mayReady_takeSpan (s : State) (body : SpanBody) : MayReady s (s.takeSpan body) := by
  unfold State.takeSpan
  split
  · exact mayReady_spanInto _ _ _
  · split
    · exact .after (put_frame s _ _).mono (mayReady_spanInto _ _ _)
    · split
      next i _ =>
        have evicted : Frame [.rowSlots] s (s.setRows ((s.rows.free i).takeSlot i body.row)) :=
          setRows_slots_frame s _ (s.rows.free_pinned i)
        exact .after (evicted.then (bump_frame _ _)) (mayReady_spanInto _ _ _)
      · exact .of_frame ((setSticky_frame s _).then (bump_frame _ _))

theorem mayReady_takeClose (s : State) (body : CloseBody) : MayReady s (s.takeClose body) := by
  unfold State.takeClose
  split
  · exact .of_frame (.refl _ s)
  · split
    · exact .of_frame (.refl _ s)
    · split_ifs
      · exact ⟨_, (put_frame s _ _).mono, .inr ⟨_, rfl⟩⟩
      · exact mayReady_damageSlot _ _ _
      · exact .of_frame (.refl _ s)

theorem MayReady.running {s t : State} (h : MayReady s t) : t.running = s.running := by
  obtain ⟨u, frame, rfl | ⟨row, rfl⟩⟩ := h
  · exact congrArg Option.isSome (frame.get .active)
  · exact (State.rowReady_running u row).trans (congrArg Option.isSome (frame.get .active))

/-- No course is begun or ended by it, and no order changed. -/
theorem MayReady.orders {s t : State} (h : MayReady s t) :
    t.course.active.map (·.order) = s.course.active.map (·.order) := by
  obtain ⟨u, frame, rfl | ⟨row, rfl⟩⟩ := h
  · exact congrArg _ (show _ = _ from frame.get .active)
  · rw [← show u.course.active = s.course.active from frame.get .active]
    simp only [State.rowReady, State.setCourse_course, Option.map_map]
    refine congrArg (fun f => Option.map f u.course.active) (funext fun a => ?_)
    simp only [Function.comp]
    split <;> rfl

theorem takeSpan_running (s : State) (body : SpanBody) : (s.takeSpan body).running = s.running :=
  (mayReady_takeSpan s body).running

theorem takeClose_running (s : State) (body : CloseBody) : (s.takeClose body).running = s.running :=
  (mayReady_takeClose s body).running

theorem Frame.running_eq {l : List Part} {s t : State} (h : Frame l s t)
    (hl : Part.active ∉ l := by decide) : t.running = s.running := congrArg Option.isSome (h.get .active hl)

/-- What an edge does to the course state: it starts a course at a turn in RUN, and leaves it else. -/
theorem exec_encoderEdge_running {a b : Bool} {s t : State} (next : exec (.encoderEdge a b) s = .next t) :
    t.running = s.running ∨
    (t.running = true ∧ ∃ r d, s.ctl.mode = .run r ∧
      quadrature (s.pos.phaseA, s.pos.phaseB) (a, b) = some d ∧
      (turnAt (s.pos.c + d) s.pos.tracker).isSome = true) := by
  have formed (d : Int) : Frame (([.posPhase, .posC, .posTracker, .posIndices] : List Part) ++ judgeParts) s
      ((s.takePhase a b).counting d).form :=
    ((takePhase_frame s a b).then (counting_frame _ d) (n := [.posPhase, .posC, .posTracker])).then
      (form_frame _)
  obtain rfl | rfl | rfl | ⟨d, legal, _, _, rfl⟩ | ⟨d, dir, legal, _, turn, rfl⟩ := exec_encoderEdge_cases next
  · exact .inl rfl
  · exact .inl rfl
  · exact .inl rfl
  · exact .inl ((arrivals_frame _).running_eq.trans (formed d).running_eq)
  · cases mode : s.ctl.mode with
    | run r =>
      have run : ((s.takePhase a b).counting d).form.ctl.mode = .run r := ((formed d).get .mode).trans mode
      refine .inr ⟨?_, r, d, rfl, legal, by simp [turn]⟩
      rw [State.running, State.directionChange_active run]
      rfl
    | _ =>
      rw [State.directionChange_of_notRun (fun r run => by
        simp [((formed d).get .mode).symm.trans run] at mode)]
      exact .inl (formed d).running_eq

theorem active_mem_footprint {c : Instr} (touched : .active ∈ footprint c) :
    (∃ a b, c = .encoderEdge a b) ∨ (∃ b, c = .span b) ∨ (∃ b, c = .close b) ∨ (∃ q, c = .reset q) ∨
    ∃ x a b r, c = .hardReset x a b r := by
  cases c with
  | encoderEdge a b => exact .inl ⟨a, b, rfl⟩
  | span b => exact .inr (.inl ⟨b, rfl⟩)
  | close b => exact .inr (.inr (.inl ⟨b, rfl⟩))
  | reset q => exact .inr (.inr (.inr (.inl ⟨q, rfl⟩)))
  | hardReset x a b r => exact .inr (.inr (.inr (.inr ⟨x, a, b, r, rfl⟩)))
  | _ => exact nomatch decide_eq_true touched

theorem exec_span_running {body : SpanBody} {s t : State} (next : exec (.span body) s = .next t) :
    t.running = s.running := by
  obtain ⟨_, rfl⟩ | elsewhere := exec_span_cases next
  · exact takeSpan_running _ _
  · exact elsewhere.running_eq

theorem exec_close_running {body : CloseBody} {s t : State} (next : exec (.close body) s = .next t) :
    t.running = s.running := by
  obtain ⟨_, rfl⟩ | elsewhere := exec_close_cases next
  · exact takeClose_running _ _
  · exact elsewhere.running_eq

/-- The ways in which the course state changes. -/
theorem exec_running_changes {c : Instr} {s t : State} (next : exec c s = .next t)
    (changed : t.running ≠ s.running) :
    (t.running = true ∧ ∃ a b r d, c = .encoderEdge a b ∧ s.ctl.mode = .run r ∧
      quadrature (s.pos.phaseA, s.pos.phaseB) (a, b) = some d ∧
      (turnAt (s.pos.c + d) s.pos.tracker).isSome = true) ∨
    (t.running = false ∧
      ((∃ q, c = .reset q ∧ s.addressed q = true) ∨ ∃ x a b r, c = .hardReset x a b r)) := by
  have touched : Part.active ∈ footprint c := by
    by_contra outside
    exact changed (congrArg Option.isSome (exec_same next .active outside))
  obtain ⟨a, b, rfl⟩ | ⟨b, rfl⟩ | ⟨b, rfl⟩ | ⟨q, rfl⟩ | ⟨x, a, b, r, rfl⟩ := active_mem_footprint touched
  · obtain same | ⟨running, r, d, turned⟩ := exec_encoderEdge_running next
    · exact absurd same changed
    · exact .inl ⟨running, a, b, r, d, rfl, turned⟩
  · exact absurd (exec_span_running next) changed
  · exact absurd (exec_close_running next) changed
  · obtain ⟨_, mine, rfl⟩ | elsewhere := exec_reset_cases next
    · exact .inr ⟨by rw [State.running, State.courseReset_course]; rfl, .inl ⟨q, rfl, mine⟩⟩
    · exact absurd elsewhere.running_eq changed
  · obtain rfl := Host.Outcome.next.inj next
    exact .inr ⟨rfl, .inr ⟨x, a, b, r, rfl⟩⟩

/-- Settles O6: by the ways in which the course state changes. -/
theorem courseStateChangesAtTurnsAndResets : Obligations.CourseStateChangesAtTurnsAndResets := by
  refine fun c s t next => ⟨fun before after => ?_, fun before after => ?_⟩ <;>
    obtain ⟨running, started⟩ | ⟨running, stopped⟩ := exec_running_changes next (by simp [before, after])
  · exact started
  · simp [after] at running
  · simp [after] at running
  · exact stopped

end Sys2Proof.Machine
end

section
/-! SUPPORT. How an invariant is carried over a step: what it does not read keeps it, and a turn, a forming, an
arrival and a leaving entry keep it when the operations they are made of do. -/

namespace Sys2Proof.Machine

/-! ### What an invariant reads -/

/-- The invariant reads nothing of the state but the listed parts. -/
structure Reads (I : State → Prop) (R : List Part) : Prop where
  carry : ∀ s t : State, (∀ p ∈ R, p.same s t) → I s → I t

theorem Reads.same {I : State → Prop} {R l : List Part} {s t : State} (reads : Reads I R)
    (h : SameExcept l s t) (beside : ∀ p ∈ R, p ∉ l := by decide) : I s → I t :=
  reads.carry s t fun p hp => h p (beside p hp)

theorem Reads.frame {I : State → Prop} {R l : List Part} {s t : State} (reads : Reads I R)
    (h : Frame l s t) (beside : ∀ p ∈ R, p ∉ l := by decide) : I s → I t := reads.same h.same beside

/-- A step keeps an invariant when the commands that touch what it reads do. -/
theorem Reads.step {I : State → Prop} {R : List Part} (reads : Reads I R)
    (touching : ∀ {c s t}, (∃ p ∈ R, p ∈ footprint c) → exec c s = .next t → I s → I t)
    (unqueued : Part.pending ∉ R := by decide) {s t : State} (next : step s = .next t) (before : I s) : I t := by
  cases queue : s.pending with
  | nil =>
    rw [(stepRunsTheFrontCommand s).2 queue] at next
    exact Host.Outcome.next.inj next ▸ before
  | cons c cs =>
    rw [(stepRunsTheFrontCommand s).1 c cs queue] at next
    have taken : SameExcept [.pending] s (s.setPending cs) := .of_blanked rfl
    have ready : I (s.setPending cs) :=
      reads.same taken (fun p hp => by rintro h; simp only [List.mem_singleton] at h; exact unqueued (h ▸ hp)) before
    by_cases touched : ∃ p ∈ R, p ∈ footprint c
    · exact touching touched next ready
    · exact reads.same (exec_same next) (fun p hp hf => touched ⟨p, hp, hf⟩) ready

/-! ### Leaving entries, and the arrival of a needle -/

section Course
variable {I : State → Prop} {R : List Part} (reads : Reads I R)
include reads

theorem Reads.account
    (close : ∀ s, I s → I s.closeRun) (hand : ∀ s a n x, I s → I (s.handRun a n x))
    (beside : ∀ p ∈ R, p ∉ [Part.tally, .counts] := by decide) (s : State) (e : Entry) (o : NeedleOutcome)
    (before : I s) : I (s.account e o) := by
  have tallied : I (s.tallied e o) := reads.frame (State.tallied_frame s e o) beside before
  have told : I ((s.tallied e o).told e o) := by
    unfold State.told State.announce
    split
    · split
      · split
        · exact hand _ _ _ _ tallied
        · exact tallied
      · exact tallied
    · exact tallied
  rw [State.account_eq]
  split
  · exact close _ told
  · exact told

/-- Leaving entries keep what an account, a closing run and the list's shortening keep. -/
theorem Reads.leave
    (close : ∀ s, I s → I s.closeRun) (hand : ∀ s a n x, I s → I (s.handRun a n x))
    (beside : ∀ p ∈ R, p ∉ [Part.outcomes, .tally, .counts] := by decide) (s : State) (before : I s) :
    I s.leave := by
  have shortened (t : State) (l : List Entry) : I t → I (t.setDec { t.dec with outcomes := l }) :=
    reads.frame (setDec_outcomes_frame t l) fun p hp h => beside p hp (by simp_all)
  have account := reads.account close hand fun p hp h => beside p hp (List.mem_cons_of_mem _ h)
  unfold State.leave
  generalize s.dec.outcomes = l
  induction l generalizing s with
  | nil => exact shortened s [] before
  | cons e es ih =>
    unfold leaveFrom
    split
    · exact ih _ (account s e _ before)
    · exact shortened s _ before

/-- An arrival keeps what its parts keep (R66). -/
theorem Reads.arrive
    (float : ∀ s a n, I s → I (s.setDec { s.dec with float := (s.chooseAction a n).2 }))
    (mark : ∀ s a n x, I s → I (s.markOwn a n x))
    (enter : ∀ s n k x g, I s → I (s.enter n k x g))
    (request : ∀ s n h d, I s → I (s.request n h d))
    (leave : ∀ s, I s → I s.leave)
    (beside : ∀ p ∈ R, p ∉ [Part.tally, .rowChoice, .cleanRead, .courseFlags, .causes, .latch] := by decide)
    (s : State) (n : Nat) (before : I s) : I (s.arrive n) := by
  have handOver (t : State) (a : Active) (k : Bool) (x : Action) (g : Bool) (h : I t) :
      I (t.handOver a n k x g) := leave _ (request _ _ _ _ (enter _ _ _ _ _ h))
  have counting (a : Active) : I (s.arriveCounting a n) := by
    have counted : I (s.countArrival a) := reads.frame (countArrival_frame s a) beside before
    unfold State.arriveCounting
    dsimp only
    split
    · exact handOver _ _ _ _ _ (mark _ _ _ _ counted)
    · exact handOver _ _ _ _ _ (mark _ _ _ _ (float _ _ _ counted))
  unfold State.arrive
  split
  · exact before
  · split
    · exact counting _
    · exact handOver _ _ _ _ _ before

theorem Reads.arrivals (arrive : ∀ s n, I s → I (s.arrive n))
    (beside : Part.posFrontier ∉ R := by decide) (s : State) (before : I s) : I s.arrivals := by
  have all (l : List Nat) (t : State) (h : I t) : I (arriveAll l t) := by
    induction l generalizing t with
    | nil => exact h
    | cons n ns ih => exact ih _ (arrive t n h)
  have frontier (f : Option Int) : SameExcept [.posFrontier] s (s.setPos { s.pos with frontier := f }) :=
    .of_blanked rfl
  unfold State.arrivals
  split
  · split
    · exact all _ _ (reads.same (frontier _) (fun p hp h => beside (List.mem_singleton.1 h ▸ hp)) before)
    · exact before
  · exact before

/-! ### The direction change, the edge and the reference mark -/

/-- What a turn, an edge and a reference load change beside the course. -/
def edgeParts : List Part :=
  ([.posC, .posPhase, .posTracker, .posReferenced, .posIndices, .posFrontier, .sticky, .counts] : List Part) ++ judgeParts

/-- A direction change keeps what the end and the start of a course and an arrival keep. -/
theorem Reads.directionChange (arrive : ∀ s n, I s → I (s.arrive n))
    (ending : ∀ s a, s.course.active = some a → I s → I (s.endCourse a))
    (starting : ∀ s dir, s.course.active = none → I s → I (s.startCourse dir))
    (beside : ∀ p ∈ R, p ∉ edgeParts := by decide) (s : State) (dir : Dir) (before : I s) :
    I (s.directionChange dir) := by
  have frontier (t : State) (f : Option Int) : SameExcept edgeParts t (t.setPos { t.pos with frontier := f }) :=
    .of_blanked rfl
  have opened (t : State) (h : I t) : I t.openFrontier := by
    unfold State.openFrontier
    split
    · exact h
    · dsimp only
      split
      · exact arrive _ _ (reads.same (frontier t _) beside h)
      · exact reads.same (frontier t _) beside h
  have ended : I s.ended := by
    cases running : s.course.active with
    | none => rwa [State.ended_of_noCourse running]
    | some a => rw [State.ended_of_running running]; exact ending s a running before
  by_cases run : ∃ r, s.ctl.mode = .run r
  · obtain ⟨r, run⟩ := run
    rw [State.directionChange_of_run run]
    exact opened _ (starting _ dir s.ended_active ended)
  · rw [State.directionChange_of_notRun fun r h => run ⟨r, h⟩]
    exact before

theorem Reads.encoderEdge (arrive : ∀ s n, I s → I (s.arrive n))
    (turning : ∀ s dir, I s → I (s.directionChange dir))
    (beside : ∀ p ∈ R, p ∉ edgeParts := by decide) {a b : Bool} {s t : State}
    (next : exec (.encoderEdge a b) s = .next t) (before : I s) : I t := by
  have phased : Frame edgeParts s (s.takePhase a b) := (takePhase_frame s a b).mono
  have formed (d : Int) : I ((s.takePhase a b).counting d).form :=
    reads.frame ((phased.then (counting_frame _ d) (n := edgeParts)).then (form_frame _)) beside before
  obtain rfl | rfl | rfl | ⟨d, _, _, _, rfl⟩ | ⟨d, dir, _, _, _, rfl⟩ := exec_encoderEdge_cases next
  · exact reads.frame phased beside before
  · exact reads.frame ((phased.then (setSticky_frame _ _) (n := edgeParts)).then (bump_frame _ _)) beside before
  · exact reads.frame (phased.then (setSticky_frame _ _)) beside before
  · exact reads.arrivals arrive (fun h => beside _ h (by decide)) _ (formed d)
  · exact turning _ dir (formed d)

end Course

/-- C and the extreme mark at Kref (R8). -/
def State.atKref (s : State) (r : SetupRec) : State :=
  s.setPos { s.pos with c := r.kref, tracker := .right r.kref, referenced := true }

theorem atKref_frame (s : State) (r : SetupRec) :
    Frame [.posC, .posTracker, .posReferenced] s (s.atKref r) :=
  .of (.of_blanked rfl)

/-- The station moved from READY to RUN (R176). -/
def State.intoRun (s : State) : State := s.setCtl { s.ctl with mode := s.ctl.mode.referenced }

theorem intoRun_frame (s : State) : Frame [.mode] s s.intoRun :=
  .of (.of_blanked rfl)

@[simp] theorem State.intoRun_setup? (s : State) : s.intoRun.setup? = s.setup? := by
  simp only [State.setup?, State.intoRun, State.setCtl_ctl]
  cases s.ctl.mode <;> rfl

theorem State.loadReference_eq (s : State) (r : SetupRec) :
    s.loadReference r = ((s.checkSlip r).atKref r).intoRun.form.arrivals := rfl

theorem exec_referenceMark_cases {s t : State} (next : exec .referenceMark s = .next t) :
    t = s ∨ ∃ e r, s.pos.tracker = .right e ∧ s.setup? = some r ∧ t = s.loadReference r := by
  simp only [exec, execReferenceMark] at next
  split at next
  next e r right taken => exact .inr ⟨e, r, right, taken, (Host.Outcome.next.inj next).symm⟩
  · exact .inl (Host.Outcome.next.inj next).symm

/-- A reference load keeps what the step from READY to RUN and an arrival keep. -/
theorem Reads.referenceMark {I : State → Prop} {R : List Part} (reads : Reads I R)
    (arrive : ∀ s n, I s → I (s.arrive n)) (intoRun : ∀ s, I s → I s.intoRun)
    (beside : ∀ p ∈ R, p ∉ edgeParts := by decide) {s t : State}
    (next : exec .referenceMark s = .next t) (before : I s) : I t := by
  obtain rfl | ⟨_, r, _, _, rfl⟩ := exec_referenceMark_cases next
  · exact before
  · have atKref : I ((s.checkSlip r).atKref r) :=
      reads.frame ((checkSlip_frame s r).then (atKref_frame _ r) (n := edgeParts)) beside before
    have formed : I ((s.checkSlip r).atKref r).intoRun.form :=
      reads.frame ((form_frame _).mono : Frame edgeParts _ _) beside (intoRun _ atKref)
    exact reads.arrivals arrive (fun h => beside _ h (by decide)) _ formed

end Sys2Proof.Machine
end

section
/-! SUPPORT. The end of a course (R60) and its start (R50) in their named parts, with what each part changes. -/

namespace Sys2Proof.Machine

/-! ### The end of a course, step by step -/

/-- Steps 1 to 3: the outcome list closed, the fire detached, the carrier settled (R85, R123, R145). -/
def State.settledEnd (s : State) : State := s.closeOutcomes.detachFire.settleCarrier

/-- Step 4: the REPORT placed (R61). -/
def State.reportedEnd (s : State) (a : Active) : State :=
  s.settledEnd.offer (.report (s.settledEnd.reportOf a (endKindOf a s.course.tally.decided)))

/-- Step 5: the verdict entered (R187). -/
def State.verdictEnd (s : State) (a : Active) : State :=
  (s.reportedEnd a).enterVerdict (s.reportedEnd a).course.unclean

/-- Step 6: slots and pages that nothing names released (R36, R37, R97). -/
def State.releasedEnd (s : State) (a : Active) : State :=
  ((s.verdictEnd a).releaseRows a.order.row (s.verdictEnd a).course.cleanRead).releasePages

/-- No context is ACTIVE, and no frontier stands. -/
def State.retired (s : State) : State :=
  (s.setCourse { s.course with active := none }).setPos { s.pos with frontier := none }

theorem State.endCourse_eq (s : State) (a : Active) : s.endCourse a = (s.releasedEnd a).retired := by
  simp only [State.endCourse, State.retired, State.releasedEnd, State.verdictEnd, State.reportedEnd,
    State.settledEnd]

theorem settledEnd_frame (s : State) :
    Frame (([.float, .headWaiting, .headFire] : List Part) ++ leaveParts ++ judgeParts) s s.settledEnd :=
  ((closeOutcomes_frame s).then (detachFire_frame _) (n := ([.float, .headWaiting, .headFire] : List Part) ++ leaveParts)).then
    (settleCarrier_frame _)

theorem reportedEnd_frame (s : State) (a : Active) :
    Frame [.transmitList, .counts] s.settledEnd (s.reportedEnd a) := offer_frame _ _

theorem verdictEnd_frame (s : State) (a : Active) :
    Frame [.history, .causes, .latch] (s.reportedEnd a) (s.verdictEnd a) := enterVerdict_frame _ _

theorem releasedEnd_frame (s : State) (a : Active) :
    Frame [.rowSlots, .rowPinned, .pages] (s.verdictEnd a) (s.releasedEnd a) :=
  (releaseRows_frame _ _ _).then (releasePages_frame _)

theorem retired_frame (s : State) : Frame [.active, .posFrontier] s s.retired :=
  .of (.of_blanked rfl)

/-! ### The start of a course -/

/-- Step 7 of a course start: the row choice not made, racking, float counter and open run begun anew, and the
listen mask set (R14, R65, R89, R98). -/
def State.contextBegun (s : State) (a : Active) : State :=
  let s1 := (s.setCourse { s.course with choice := none, cleanRead := false }).applyRacking a.order.racking
  let s2 := s1.setDec { s1.dec with float := 0 }
  (s2.setClaim { s2.claim with run := none }).listenPage a

theorem State.handContext_eq (s : State) (a : Active) : s.handContext a = (s.contextBegun a).formCarrier a := rfl

theorem contextBegun_frame (s : State) (a : Active) :
    Frame [.posRacking, .posIndices, .rowChoice, .cleanRead, .float, .openRun, .pages] s
      (s.contextBegun a) := by
  have unchosen : Frame [.rowChoice, .cleanRead] s
      (s.setCourse { s.course with choice := none, cleanRead := false }) :=
    .of (.of_blanked rfl)
  have racked := (unchosen.then (applyRacking_frame _ a.order.racking)
    (n := [.posRacking, .posIndices, .rowChoice, .cleanRead])).then (setDec_float_frame _ 0)
    (n := [.posRacking, .posIndices, .rowChoice, .cleanRead, .float])
  exact (racked.then (setClaim_run_frame _ none)
    (n := [.posRacking, .posIndices, .rowChoice, .cleanRead, .float, .openRun])).then (listenPage_frame _ a)

theorem State.startCourse_eq (s : State) (dir : Dir) :
    s.startCourse dir =
      (((s.activate dir).loadBacking (s.course.nextActive dir)).handContext (s.course.nextActive dir)).prime := rfl

/-! ### What the parts keep -/

section Keeps
variable {I : State → Prop} {R : List Part} (reads : Reads I R)
include reads

/-- A course end keeps what its parts keep, for an invariant that reads neither the carrier unit nor the ACTIVE
context. -/
theorem Reads.endCourse (close : ∀ s, I s → I s.closeOutcomes) (detach : ∀ s, I s → I s.detachFire)
    (offer : ∀ s n, I s → I (s.offer n)) (rows : ∀ s row clean, I s → I (s.releaseRows row clean))
    (pages : ∀ s, I s → I s.releasePages)
    (beside : ∀ p ∈ R, p ∉ [Part.active, .posFrontier, .history] ++ judgeParts := by decide)
    (s : State) (a : Active) (before : I s) : I (s.endCourse a) := by
  have reported : I (s.reportedEnd a) :=
    offer _ _ (reads.frame ((settleCarrier_frame _).mono : Frame (_ ++ judgeParts) _ _) beside
      (detach _ (close _ before)))
  have verdict : I (s.verdictEnd a) :=
    reads.frame ((verdictEnd_frame s a).mono : Frame (_ ++ judgeParts) _ _) beside reported
  exact reads.frame ((retired_frame _).mono : Frame (_ ++ judgeParts) _ _) beside
    (pages _ (rows _ _ _ verdict))

/-- A course start keeps what its parts keep, for an invariant that reads neither the carrier unit nor the
contexts. -/
theorem Reads.startCourse (load : ∀ s a, I s → I (s.loadBacking a)) (begin_ : ∀ s a, I s → I (s.contextBegun a))
    (prime : ∀ s, I s → I s.prime)
    (beside : ∀ p ∈ R, p ∉ [Part.sticky, .standby, .active, .expected, .tally, .standbyTake] ++ judgeParts :=
      by decide)
    (s : State) (dir : Dir) (before : I s) : I (s.startCourse dir) := by
  have active : I (s.activate dir) :=
    reads.frame ((activate_frame s dir).mono : Frame (_ ++ judgeParts) _ _) beside before
  exact prime _ (reads.frame ((formCarrier_frame _ _).mono : Frame (_ ++ judgeParts) _ _) beside
    (begin_ _ _ (load _ _ active)))

end Keeps

end Sys2Proof.Machine
end

section
/-! SUPPORT. The pending request served at a fire's end (R117), and the two ends of a fire (R113, R114, R115). -/

namespace Sys2Proof.Machine

/-! ### The pending request -/

/-- The answer a pending request gets when it is served without a fire: it has passed the selector, or the head is
disabled, at the height asked for already, or held by a LOW rail (R117). -/
def State.pendingAnswer (s : State) (q : Request) : Option NeedleOutcome :=
  if s.passedSelector q.travel q.needle then some .lost
  else if s.head.disabled then some .disabled
  else if s.head.height = some q.target then some .done
  else if !s.head.railGood then some .rail
  else none

/-- The head without a pending request. -/
def State.dropWaiting (s : State) : State := s.setHead { s.head with waiting := none }

theorem dropWaiting_frame (s : State) : Frame [.headWaiting] s s.dropWaiting := setHead_waiting_frame s none

theorem State.serve_of_alone {s : State} (alone : s.head.waiting = none) : s.serve = s := by
  simp only [State.serve, alone]

section Waiting
variable {s : State} {q : Request} (waiting : s.head.waiting = some q)
include waiting

theorem State.serve_of_answer {o : NeedleOutcome} (answer : s.pendingAnswer q = some o) :
    s.serve = s.dropWaiting.answer q.needle o := by
  simp only [State.serve, waiting]
  unfold State.pendingAnswer at answer
  split_ifs at answer ⊢ <;> cases answer <;> rfl

theorem State.serve_of_fire (unanswered : s.pendingAnswer q = none) :
    s.serve = s.dropWaiting.startFire q.needle q.target := by
  simp only [State.serve, waiting]
  unfold State.pendingAnswer at unanswered
  split_ifs at unanswered ⊢
  rfl

end Waiting

/-- What serving the pending request can come to. -/
theorem State.serve_cases (s : State) :
    (s.head.waiting = none ∧ s.serve = s) ∨
    (∃ q o, s.head.waiting = some q ∧ s.pendingAnswer q = some o ∧
      s.serve = s.dropWaiting.answer q.needle o) ∨
    (∃ q, s.head.waiting = some q ∧ s.pendingAnswer q = none ∧
      s.serve = s.dropWaiting.startFire q.needle q.target) := by
  cases waiting : s.head.waiting with
  | none => exact .inl ⟨rfl, State.serve_of_alone waiting⟩
  | some q =>
    cases answer : s.pendingAnswer q with
    | none => exact .inr (.inr ⟨q, rfl, answer, State.serve_of_fire waiting answer⟩)
    | some o => exact .inr (.inl ⟨q, o, rfl, answer, State.serve_of_answer waiting answer⟩)

/-- A pending request that starts a fire finds the head enabled. -/
theorem State.enabled_of_unanswered {s : State} {q : Request} (unanswered : s.pendingAnswer q = none) :
    s.head.disabled = false := by
  unfold State.pendingAnswer at unanswered
  split_ifs at unanswered
  simp_all

/-! ### The ends of a fire -/

/-- The fire ended confirmed at its height (R113). -/
def State.fireConfirmed (s : State) (f : Fire) : State :=
  s.setHead { s.head with height := some f.target, fire := none, faults := 0 }

theorem fireConfirmed_frame (s : State) (f : Fire) :
    Frame [.headHeight, .headFire, .headFaults] s (s.fireConfirmed f) :=
  .of (.of_blanked rfl)

theorem exec_headConfirm_of_idle {s : State} (idle : s.head.fire = none) :
    exec .headConfirm s = .next (s.bump .strayConfirms) := by
  simp only [exec, execHeadConfirm, idle]

theorem exec_headConfirm_of_fire {s : State} {f : Fire} (firing : s.head.fire = some f) :
    exec .headConfirm s = .next ((s.fireConfirmed f).answerIf f.needle .done).serve := by
  simp only [exec, execHeadConfirm, firing]
  rfl

theorem fireFaulted_frame (s : State) :
    Frame [.headHeight, .headFire, .headFaults, .sticky, .counts] s s.fireFaulted := by
  have ended : Frame [.headHeight, .headFire, .headFaults] s
      (s.setHead { s.head with height := none, fire := none, faults := s.head.faults + 1 }) :=
    .of (.of_blanked rfl)
  exact (ended.then (setSticky_frame _ .fireFault) (n := [.headHeight, .headFire, .headFaults, .sticky])).then
    (bump_frame _ .fireDeadlines)

end Sys2Proof.Machine
end

section
/-! PROOF. The head's height, fire, pending request and state agree over every step (R109, R110, R116, R119). -/

namespace Sys2Proof.Machine

theorem headAgrees_reads :
    Reads State.HeadAgrees [.headHeight, .headFire, .headWaiting, .headDisabled] := by
  constructor
  intro s t same before
  have height : t.head.height = s.head.height := same .headHeight (by decide)
  have fire : t.head.fire = s.head.fire := same .headFire (by decide)
  have waiting : t.head.waiting = s.head.waiting := same .headWaiting (by decide)
  have disabled : t.head.disabled = s.head.disabled := same .headDisabled (by decide)
  unfold State.HeadAgrees
  rwa [height, fire, waiting, disabled]

/-- A fire that starts at an enabled head, with no request waiting. -/
theorem headAgrees_startFire {s : State} (enabled : s.head.disabled = false) (n : Nat) (h : Height) :
    (s.startFire n h).HeadAgrees := by
  simp [State.HeadAgrees, State.startFire_head, enabled]

theorem headAgrees_replaceWaiting {s : State} (q : Request) (enabled : s.head.disabled = false)
    (firing : s.head.fire.isSome = true) (before : s.HeadAgrees) : (s.replaceWaiting q).HeadAgrees := by
  obtain ⟨between, _, _⟩ := before
  have frame := replaceWaiting_frame s q
  unfold State.HeadAgrees
  rw [show _ = _ from frame.get .headHeight, show _ = _ from frame.get .headFire,
    show _ = _ from frame.get .headDisabled]
  exact ⟨between, fun _ => firing, fun disabled => absurd disabled (by simp [enabled])⟩

/-- The hand-over of a request keeps the head agreeing, by the table of R110. -/
theorem headAgrees_request (s : State) (n : Nat) (h : Height) (travel : Dir) (before : s.HeadAgrees) :
    (s.request n h travel).HeadAgrees := by
  have resolved (o : NeedleOutcome) : (s.resolve n o).HeadAgrees := headAgrees_reads.frame (resolve_frame s n o) (by decide) before
  by_cases disabled : s.head.disabled = true
  · rw [State.request_of_disabled n h travel disabled]
    exact resolved _
  by_cases low : s.head.railGood = false
  · rw [State.request_of_railLow n h travel disabled low]
    exact resolved _
  by_cases firing : s.head.fire ≠ none
  · rw [State.request_of_firing n h travel disabled low firing]
    exact headAgrees_replaceWaiting _ (by simpa using disabled) (Option.isSome_iff_ne_none.2 firing) before
  by_cases there : s.head.height = some h
  · rw [State.request_of_atHeight n h travel disabled low firing there]
    exact resolved _
  · rw [State.request_of_elsewhere n h travel disabled low firing there]
    exact headAgrees_startFire (by simpa using disabled) n h

theorem headAgrees_detachFire (s : State) (before : s.HeadAgrees) : s.detachFire.HeadAgrees := by
  obtain ⟨between, _, still⟩ := before
  refine ⟨fun firing => between (by simpa [State.detachFire] using firing), by simp [State.detachFire],
    fun disabled => ?_⟩
  obtain ⟨height, fire, _⟩ := still disabled
  exact ⟨height, by simp [State.detachFire, fire], rfl⟩

/-- At a fire's end the pending request is served by a head without a fire. -/
theorem headAgrees_serve {s : State} (ended : s.head.fire = none)
    (still : s.head.disabled = true → s.head.height = none) : s.serve.HeadAgrees := by
  obtain ⟨alone, served⟩ | ⟨q, o, _, _, served⟩ | ⟨q, _, unanswered, served⟩ := s.serve_cases <;> rw [served]
  · exact ⟨by simp [ended], by simp [alone], fun disabled => ⟨still disabled, ended, alone⟩⟩
  · have dropped : s.dropWaiting.HeadAgrees :=
      ⟨by simp [State.dropWaiting, ended], by simp [State.dropWaiting], fun disabled => ⟨still disabled, ended, rfl⟩⟩
    exact headAgrees_reads.frame (answer_frame _ _ _) (by decide) dropped
  · exact headAgrees_startFire (State.enabled_of_unanswered unanswered : s.dropWaiting.head.disabled = false) _ _

theorem headAgrees_arrive (s : State) (n : Nat) : s.HeadAgrees → (s.arrive n).HeadAgrees :=
  headAgrees_reads.arrive (fun s _ _ => headAgrees_reads.frame (setDec_float_frame s _))
    (fun s a n x => headAgrees_reads.frame (markOwn_frame s a n x))
    (fun s n k x g => headAgrees_reads.frame (enter_frame s n k x g))
    headAgrees_request (fun s => headAgrees_reads.frame (leave_frame s)) (by decide) s n

theorem headAgrees_directionChange (s : State) (dir : Dir) : s.HeadAgrees → (s.directionChange dir).HeadAgrees :=
  headAgrees_reads.directionChange headAgrees_arrive
    (fun s a _ => headAgrees_reads.endCourse (fun s => headAgrees_reads.frame (closeOutcomes_frame s))
      headAgrees_detachFire (fun s n => headAgrees_reads.frame (offer_frame s n))
      (fun s row clean => headAgrees_reads.frame (releaseRows_frame s row clean))
      (fun s => headAgrees_reads.frame (releasePages_frame s)) (by decide) s a)
    (fun s dir _ => headAgrees_reads.frame (startCourse_frame s dir)) (by decide) s dir

theorem headAgrees_headConfirm {s t : State} (next : exec .headConfirm s = .next t) (before : s.HeadAgrees) :
    t.HeadAgrees := by
  cases firing : s.head.fire with
  | none =>
    rw [exec_headConfirm_of_idle firing] at next
    exact Host.Outcome.next.inj next ▸ headAgrees_reads.frame (bump_frame s _) (by decide) before
  | some f =>
    rw [exec_headConfirm_of_fire firing] at next
    obtain rfl := Host.Outcome.next.inj next
    have answered := answerIf_frame (s.fireConfirmed f) f.needle .done
    obtain ⟨_, _, still⟩ := before
    refine headAgrees_serve (answered.get .headFire) fun disabled => ?_
    obtain ⟨_, idle, _⟩ := still ((answered.get .headDisabled).symm.trans disabled)
    simp [idle] at firing

theorem headAgrees_fireDeadline {s t : State} (next : exec .fireDeadline s = .next t) (before : s.HeadAgrees) :
    t.HeadAgrees := by
  cases firing : s.head.fire with
  | none =>
    rw [exec_fireDeadline_of_idle firing] at next
    exact Host.Outcome.next.inj next ▸ before
  | some f =>
    rw [exec_fireDeadline_of_fire firing] at next
    obtain rfl := Host.Outcome.next.inj next
    have judged := (answerIf_frame s.fireFaulted f.needle .fault).then (judgeFaults_frame _)
      (n := ([.headDisabled, .causes, .latch] : List Part) ++ leaveParts)
    exact headAgrees_serve (judged.get .headFire) fun _ => judged.get .headHeight

theorem headAgrees_courseReset (s : State) (before : s.HeadAgrees) : s.courseReset.HeadAgrees := by
  obtain ⟨between, _, _⟩ := before
  have cleared : s.clearedBlocks.HeadAgrees :=
    ⟨fun firing => between (by simpa [State.clearedBlocks, State.resetLine, State.resetHead, State.detachFire,
        State.resetClaims, State.resetRows, State.resetCourse] using firing),
      by simp [State.clearedBlocks, State.resetLine, State.resetHead, State.detachFire],
      by simp [State.clearedBlocks, State.resetLine, State.resetHead]⟩
  exact headAgrees_reads.frame (clearedBlocks_courseReset_frame s) (by decide) cleared

/-- Settles O12: by the commands that touch the head's height, fire, request or state. -/
theorem stepKeepsTheHeadAgreeing : Obligations.StepKeepsTheHeadAgreeing := by
  refine fun s t before next => headAgrees_reads.step (fun {c s t} touched next before => ?_) (by decide) next before
  cases c with
  | encoderEdge a b =>
    exact headAgrees_reads.encoderEdge headAgrees_arrive headAgrees_directionChange (by decide) next before
  | referenceMark =>
    exact headAgrees_reads.referenceMark headAgrees_arrive (fun s => headAgrees_reads.frame (intoRun_frame s))
      (by decide) next before
  | headConfirm => exact headAgrees_headConfirm next before
  | fireDeadline => exact headAgrees_fireDeadline next before
  | reset q =>
    obtain ⟨_, _, rfl⟩ | elsewhere := exec_reset_cases next
    · exact headAgrees_courseReset _ (headAgrees_reads.frame (endMark_frame s) (by decide) before)
    · exact headAgrees_reads.frame elsewhere (by decide) before
  | hardReset x a b r =>
    obtain rfl := Host.Outcome.next.inj next
    simp [State.HeadAgrees, State.hardReset, State.afterReset]
  | _ => exact nomatch touches_of_mem touched

end Sys2Proof.Machine
end

section
/-! SUPPORT. How an invariant is carried over the ends of a fire (R113, R114, R117) and a closing run (R90, R93), and
a step as the command it runs. -/

namespace Sys2Proof.Machine

/-- A step changes nothing, or runs a command on a station that differs in the queue of commands alone. -/
theorem step_cases {s t : State} (next : step s = .next t) :
    t = s ∨ ∃ c u, SameExcept [.pending] s u ∧ exec c u = .next t := by
  cases queue : s.pending with
  | nil =>
    rw [(stepRunsTheFrontCommand s).2 queue] at next
    exact .inl (Host.Outcome.next.inj next).symm
  | cons c cs =>
    rw [(stepRunsTheFrontCommand s).1 c cs queue] at next
    exact .inr ⟨c, _, .of_blanked (t := s.setPending cs) rfl, next⟩

theorem answerIf_keeps {I : State → Prop} (answer : ∀ s n o, I s → I (s.answer n o)) (s : State) (n : Option Nat)
    (o : NeedleOutcome) (before : I s) : I (s.answerIf n o) := by
  unfold State.answerIf
  split
  · exact answer _ _ _ before
  · exact before

section Fires
variable {I : State → Prop} {R : List Part} (reads : Reads I R)
include reads

/-- What the ends of a fire change beside the needles' entries. -/
def fireParts : List Part :=
  [.headHeight, .headCode, .headFire, .headWaiting, .headFaults, .headDisabled, .sticky, .causes, .latch, .counts]

theorem Reads.serve (answer : ∀ s n o, I s → I (s.answer n o))
    (beside : ∀ p ∈ R, p ∉ fireParts := by decide) (s : State) (before : I s) : I s.serve := by
  have dropped : I s.dropWaiting := reads.frame ((dropWaiting_frame s).mono : Frame fireParts _ _) beside before
  obtain ⟨_, served⟩ | ⟨q, o, _, _, served⟩ | ⟨q, _, _, served⟩ := s.serve_cases <;> rw [served]
  · exact before
  · exact answer _ _ _ dropped
  · exact reads.frame ((startFire_frame _ _ _).mono : Frame fireParts _ _) beside dropped

/-- A confirm keeps what an answer keeps, for an invariant that reads nothing of the head driver. -/
theorem Reads.headConfirm (answer : ∀ s n o, I s → I (s.answer n o))
    (beside : ∀ p ∈ R, p ∉ fireParts := by decide) {s t : State}
    (next : exec .headConfirm s = .next t) (before : I s) : I t := by
  cases firing : s.head.fire with
  | none =>
    rw [exec_headConfirm_of_idle firing] at next
    exact Host.Outcome.next.inj next ▸ reads.frame ((bump_frame s _).mono : Frame fireParts _ _) beside before
  | some f =>
    rw [exec_headConfirm_of_fire firing] at next
    have confirmed : I (s.fireConfirmed f) :=
      reads.frame ((fireConfirmed_frame s f).mono : Frame fireParts _ _) beside before
    exact Host.Outcome.next.inj next ▸ reads.serve answer beside _ (answerIf_keeps answer _ _ _ confirmed)

theorem Reads.fireDeadline (answer : ∀ s n o, I s → I (s.answer n o))
    (beside : ∀ p ∈ R, p ∉ fireParts := by decide) {s t : State}
    (next : exec .fireDeadline s = .next t) (before : I s) : I t := by
  cases firing : s.head.fire with
  | none =>
    rw [exec_fireDeadline_of_idle firing] at next
    exact Host.Outcome.next.inj next ▸ before
  | some f =>
    rw [exec_fireDeadline_of_fire firing] at next
    have answered : I (s.fireFaulted.answerIf f.needle .fault) :=
      answerIf_keeps answer _ _ _ (reads.frame ((fireFaulted_frame s).mono : Frame fireParts _ _) beside before)
    have judged := reads.frame ((judgeFaults_frame _).mono : Frame fireParts _ _) beside answered
    exact Host.Outcome.next.inj next ▸ reads.serve answer beside _ judged

/-- A closing run keeps what a placed notice keeps. -/
theorem Reads.closeRun (offer : ∀ s n, I s → I (s.offer n))
    (beside : ∀ p ∈ R, p ∉ [Part.openRun, .courseFlags, .counts] := by decide) (s : State) (before : I s) :
    I s.closeRun := by
  have formed (t : State) (r : OpenRun) (h : I t) : I (t.formClaim r) := by
    unfold State.formClaim
    split
    · exact h
    next a _ =>
      have offered : I ((t.bump .claimsFormed).offer
          (.claim a.order.pass a.order.row (min r.first r.last) r.count r.result)) :=
        offer _ _ (reads.frame ((bump_frame t _).mono : Frame [.openRun, .courseFlags, .counts] _ _) beside h)
      dsimp only
      split
      · exact offered
      · exact reads.frame ((setCourseFlag_frame_of_none _ .claimsDropped rfl).mono :
          Frame [.openRun, .courseFlags, .counts] _ _) beside offered
  unfold State.closeRun
  split
  · exact before
  · exact formed _ _ (reads.frame ((setClaim_run_frame s none).mono : Frame [.openRun, .courseFlags, .counts] _ _)
      beside before)

/-- A result handed to the open run keeps what a closing run and a changed run keep. -/
theorem Reads.handRun (close : ∀ s, I s → I s.closeRun)
    (beside : Part.openRun ∉ R := by decide) (s : State) (a : Active) (n : Nat) (x : NeedleResult)
    (before : I s) : I (s.handRun a n x) := by
  have differing : I (s.closeDiffering x) := by
    unfold State.closeDiffering
    split
    · split
      · exact before
      · exact close _ before
    · exact before
  have joined (t : State) (r : OpenRun) (h : I t) : I (t.setClaim { t.claim with run := some r }) :=
    reads.frame (setClaim_run_frame t _) (fun p hp hr => beside (List.mem_singleton.1 hr ▸ hp)) h
  rw [State.handRun_eq_joinRun]
  unfold State.joinRun
  dsimp only
  split
  · exact close _ (joined _ _ differing)
  · exact joined _ _ differing

end Fires

/-! ### An accepted order -/

/-- The claim page of an accepted COVER order is bound (R96). -/
def State.pageBound (s : State) (o : Order) : State :=
  if o.role = .cover then s.setClaim (s.claim.bind o.row s.width) else s

theorem pageBound_frame (s : State) (o : Order) : Frame [.pages] s (s.pageBound o) :=
  .ite (bind_frame s _ _) (.refl _ s)

/-- The order has joined the tail of the queue (R42). -/
def State.queued (s : State) (o : Order) : State := s.setCourse { s.course with queue := s.course.queue ++ [o] }

theorem queued_frame (s : State) (o : Order) : Frame [.orderQueue] s (s.queued o) :=
  .of (.of_blanked rfl)

theorem State.acceptOrder_eq (s : State) (o : Order) :
    s.acceptOrder o = ((s.pageBound o).queued (o.clampWindow s.width)).prime := rfl

/-- An ORDER is refused, or accepted with every check passed (R42). -/
theorem State.takeOrder_cases (s : State) (b : OrderBody) :
    (∃ r, s.takeOrder b = s.refuseOrder r) ∨
    (∃ o, OrderBody.decode b = some o ∧ s.refusalOf o = none ∧ s.takeOrder b = s.acceptOrder o) := by
  unfold State.takeOrder
  cases decoded : OrderBody.decode b with
  | none => exact .inl ⟨_, rfl⟩
  | some o =>
    cases refused : s.refusalOf o with
    | some r => exact .inl ⟨r, by simp only [refused]⟩
    | none => exact .inr ⟨o, rfl, refused, by simp only [refused]⟩

end Sys2Proof.Machine
end

section
/-! PROOF. The transmit list stays ordered by class, with 16 notices at most (R156). -/

namespace Sys2Proof.Machine

theorem listOrdered_reads : Reads State.ListOrdered [.transmitList] := by
  constructor
  intro s t same before
  have list : t.line.list = s.line.list := same .transmitList (by decide)
  unfold State.ListOrdered
  rwa [list]

theorem listOrdered_of_sublist {s t : State} (part : t.line.list.Sublist s.line.list) (before : s.ListOrdered) :
    t.ListOrdered := by
  obtain ⟨ordered, short⟩ := before
  exact ⟨ordered.sublist part, part.length_le.trans short⟩

theorem listOrdered_offer (s : State) (n : Notice) (before : s.ListOrdered) : (s.offer n).ListOrdered := by
  by_cases room : s.line.list.length < 16
  · obtain ⟨ordered, _⟩ := before
    rw [State.offer_room s n room]
    exact ⟨joinList_ordered n _ ordered, (joinList_length n _).le.trans room⟩
  · rw [State.offer_full s n (by omega)]
    exact listOrdered_reads.frame (bump_frame s _) (by decide) before

theorem listOrdered_closeRun (s : State) : s.ListOrdered → s.closeRun.ListOrdered :=
  listOrdered_reads.closeRun listOrdered_offer (by decide) s

theorem listOrdered_leave (s : State) : s.ListOrdered → s.leave.ListOrdered :=
  listOrdered_reads.leave listOrdered_closeRun
    (fun s a n x => listOrdered_reads.handRun listOrdered_closeRun (by decide) s a n x) (by decide) s

theorem listOrdered_answer (s : State) (n : Nat) (o : NeedleOutcome) (before : s.ListOrdered) :
    (s.answer n o).ListOrdered :=
  listOrdered_leave _ (listOrdered_reads.frame (resolve_frame s n o) (by decide) before)

theorem listOrdered_closeOutcomes (s : State) (before : s.ListOrdered) : s.closeOutcomes.ListOrdered := by
  have ended := listOrdered_reads.frame (setDec_outcomes_frame s (s.dec.outcomes.map endEntry)) (by decide) before
  exact listOrdered_reads.frame (setDec_float_frame _ 0) (by decide)
    (listOrdered_closeRun _ (listOrdered_leave _ ended))

theorem listOrdered_arrive (s : State) (n : Nat) : s.ListOrdered → (s.arrive n).ListOrdered :=
  listOrdered_reads.arrive (fun s _ _ => listOrdered_reads.frame (setDec_float_frame s _))
    (fun s a n x => listOrdered_reads.frame (markOwn_frame s a n x))
    (fun s n k x g => listOrdered_reads.frame (enter_frame s n k x g))
    (fun s n h d => listOrdered_reads.frame (request_frame s n h d)) listOrdered_leave (by decide) s n

theorem listOrdered_prime (s : State) (before : s.ListOrdered) : s.prime.ListOrdered := by
  have take (t : State) (o : Order) (h : t.ListOrdered) : (t.standbyTakeFor o).ListOrdered := by
    have put (u : State) (x : Option Take) : u.ListOrdered → (u.setCarr { u.carr with standbyTake := x }).ListOrdered :=
      listOrdered_reads.frame (setCarr_takes_frame u x) (by decide)
    unfold State.standbyTakeFor
    split
    · unfold State.makeStandbyTake
      dsimp only
      split_ifs
      · exact put _ _ h
      · exact put _ _ h
      · exact put _ _ h
      · exact put _ _ (listOrdered_offer _ _ h)
      · exact put _ _ (listOrdered_offer _ _ h)
    · exact put _ _ h
  unfold State.prime
  split
  · exact take _ _ before
  · exact before

theorem listOrdered_directionChange (s : State) (dir : Dir) : s.ListOrdered → (s.directionChange dir).ListOrdered :=
  listOrdered_reads.directionChange listOrdered_arrive
    (fun s a _ => listOrdered_reads.endCourse listOrdered_closeOutcomes
      (fun s => listOrdered_reads.frame (detachFire_frame s)) listOrdered_offer
      (fun s row clean => listOrdered_reads.frame (releaseRows_frame s row clean))
      (fun s => listOrdered_reads.frame (releasePages_frame s)) (by decide) s a)
    (fun s dir _ => listOrdered_reads.startCourse (fun s a => listOrdered_reads.frame (loadBacking_frame s a))
      (fun s a => listOrdered_reads.frame (contextBegun_frame s a)) listOrdered_prime (by decide) s dir)
    (by decide) s dir

theorem listOrdered_loseCarrier (s : State) (c : Fin 16) (pass : Word16) (before : s.ListOrdered) :
    (s.loseCarrier c pass).ListOrdered :=
  listOrdered_offer _ _ (listOrdered_reads.frame (judgeFree_frame _) (by decide)
    (listOrdered_reads.frame (record_frame s c _ _ _) (by decide) before))

theorem listOrdered_pinConfirm {s t : State} (next : exec .pinConfirm s = .next t) (before : s.ListOrdered) :
    t.ListOrdered := by
  have released : (s.setPin .released).ListOrdered := listOrdered_reads.frame (setPin_frame s _) (by decide) before
  simp only [exec, execPinConfirm] at next
  split at next
  · exact Host.Outcome.next.inj next ▸ listOrdered_reads.frame (bump_frame s _) (by decide) before
  · exact Host.Outcome.next.inj next ▸ listOrdered_reads.frame (bump_frame s _) (by decide) before
  next c pass _ ofCourse _ =>
    obtain rfl := Host.Outcome.next.inj next
    have recorded := listOrdered_reads.frame
      (((setPin_frame s (.engaged c pass)).then (record_frame _ c (.held s.ctl.station) (s.carrier c).reserved true)
        (n := .carrierTable :: judgeParts))) (by decide) before
    have offered := listOrdered_offer _ (.pick pass c) recorded
    split
    · exact listOrdered_reads.frame (confirmHeld_frame _) (by decide) offered
    · exact listOrdered_reads.frame (startRelease_frame _) (by decide) offered
  next c pass _ silent _ =>
    split at next
    · exact Host.Outcome.next.inj next ▸ listOrdered_reads.frame (judgeFree_frame _) (by decide) released
    · exact Host.Outcome.next.inj next ▸ listOrdered_offer _ _ (listOrdered_reads.frame (judgeFree_frame _) (by decide)
        (listOrdered_reads.frame (record_frame _ c _ _ _) (by decide) released))

theorem listOrdered_engagementDeadline {s t : State} (next : exec .engagementDeadline s = .next t)
    (before : s.ListOrdered) : t.ListOrdered := by
  simp only [exec, execEngagementDeadline] at next
  split at next
  next c pass _ ofCourse _ =>
    obtain rfl := Host.Outcome.next.inj next
    refine listOrdered_loseCarrier _ _ _ (listOrdered_reads.frame (pinFault_frame _) (by decide) ?_)
    split
    · exact listOrdered_reads.frame (faultCarrier_frame s) (by decide) before
    · exact before
  · exact Host.Outcome.next.inj next ▸ before

theorem listOrdered_releaseDeadline {s t : State} (next : exec .releaseDeadline s = .next t)
    (before : s.ListOrdered) : t.ListOrdered := by
  have faulted := listOrdered_reads.frame (pinFault_frame s) (by decide) before
  simp only [exec, execReleaseDeadline] at next
  split at next
  · split at next
    · exact Host.Outcome.next.inj next ▸ listOrdered_reads.frame (judgeFree_frame _) (by decide) faulted
    · exact Host.Outcome.next.inj next ▸ listOrdered_loseCarrier _ _ _ faulted
  · exact Host.Outcome.next.inj next ▸ before

theorem listOrdered_takeOrder (s : State) (b : OrderBody) (before : s.ListOrdered) : (s.takeOrder b).ListOrdered := by
  obtain ⟨r, refused⟩ | ⟨o, _, _, accepted⟩ := s.takeOrder_cases b
  · exact refused ▸ listOrdered_reads.frame (refuseOrder_frame s r) (by decide) before
  · rw [accepted, State.acceptOrder_eq]
    exact listOrdered_prime _ (listOrdered_reads.frame ((pageBound_frame s o).then (queued_frame _ _)
      (n := [.pages, .orderQueue])) (by decide) before)

theorem listOrdered_takeTake (s : State) (q : StationNo) (pass : Word16) (c : Fin 16) (before : s.ListOrdered) :
    (s.takeTake q pass c).ListOrdered := by
  unfold State.takeTake
  split
  · have withdrawn : (s.setLine { s.line with list := s.line.list.filter fun n => n != .take pass c }).ListOrdered :=
      listOrdered_of_sublist List.filter_sublist before
    exact listOrdered_reads.frame (reserve_frame _ q pass c) (by decide)
      (listOrdered_reads.frame ((bump_frame _ _).then (loseTake_frame _ c pass)
        (n := [.standbyTake, .courseCarrier, .courseFlags, .causes, .latch, .counts])) (by decide) withdrawn)
  · exact listOrdered_reads.frame (reserve_frame s q pass c) (by decide) before

theorem listOrdered_offerParts (page k : Nat) (l : List (List Byte)) (s : State) (before : s.ListOrdered) :
    (offerParts page k l s).ListOrdered := by
  induction l generalizing k s with
  | nil => exact before
  | cons b bs ih => exact ih _ _ (listOrdered_offer s _ before)

theorem listOrdered_courseReset (s : State) : s.courseReset.ListOrdered := by
  have empty : (s.clearedBlocks.setCarr { s.clearedBlocks.carr with
      table := Vector.replicate 16 ⟨.unknown, none⟩, standbyTake := none, course := none }).ListOrdered :=
    ⟨.nil, Nat.zero_le _⟩
  have pin (t : State) (h : t.ListOrdered) : t.resetPin.ListOrdered := by
    unfold State.resetPin
    split
    · exact h
    all_goals exact listOrdered_offer _ _ (listOrdered_reads.frame (setPin_frame t _) (by decide) h)
  exact listOrdered_reads.frame ((resetPosition_frame _).then (resetHistory_frame _)
    (n := [.posFrontier, .posRacking, .posIndices, .history])) (by decide) (pin _ empty)

theorem listOrdered_ifAddressed (s : State) (q : BitVec 5) (f : State → State)
    (taken : ∀ t, t.ListOrdered → (f t).ListOrdered) (before : s.ListOrdered) : (s.ifAddressed q f).ListOrdered := by
  obtain ⟨_, _, heard⟩ | elsewhere := s.ifAddressed_cases q f
  · rw [heard]
    exact taken _ (listOrdered_reads.frame (endMark_frame s) (by decide) before)
  · exact listOrdered_reads.frame elsewhere (by decide) before

/-- A notice that leaves the list at its end (R157, R164). -/
theorem listOrdered_drop {s t : State} {n : Notice} (dropped : t.line.list = (s.line.drop n).list)
    (before : s.ListOrdered) : t.ListOrdered :=
  listOrdered_of_sublist (dropped ▸ List.erase_sublist) before

/-- Every command keeps the transmit list ordered, by the commands that place, withdraw or drop a notice. -/
theorem exec_listOrdered {c : Instr} {s t : State} (touched : ∃ p ∈ [Part.transmitList], p ∈ footprint c)
    (next : exec c s = .next t) (before : s.ListOrdered) : t.ListOrdered := by
  have ended : s.endMark.ListOrdered := listOrdered_reads.frame (endMark_frame s) (by decide) before
  cases c with
  | encoderEdge a b =>
    exact listOrdered_reads.encoderEdge listOrdered_arrive listOrdered_directionChange (by decide) next before
  | referenceMark =>
    exact listOrdered_reads.referenceMark listOrdered_arrive (fun s => listOrdered_reads.frame (intoRun_frame s))
      (by decide) next before
  | headConfirm => exact listOrdered_reads.headConfirm listOrdered_answer (by decide) next before
  | fireDeadline => exact listOrdered_reads.fireDeadline listOrdered_answer (by decide) next before
  | pinConfirm => exact listOrdered_pinConfirm next before
  | engagementDeadline => exact listOrdered_engagementDeadline next before
  | releaseDeadline => exact listOrdered_releaseDeadline next before
  | order q b =>
    obtain ⟨_, rfl⟩ | elsewhere := exec_order_cases next
    · exact listOrdered_takeOrder _ b ended
    · exact listOrdered_reads.frame elsewhere (by decide) before
  | take q pass x =>
    obtain ⟨c, rfl⟩ | elsewhere := exec_take_cases next
    · exact listOrdered_takeTake _ q pass c ended
    · exact listOrdered_reads.frame elsewhere (by decide) before
  | reset q =>
    obtain ⟨_, _, rfl⟩ | elsewhere := exec_reset_cases next
    · exact listOrdered_courseReset _
    · exact listOrdered_reads.frame elsewhere (by decide) before
  | queryPage0 q x =>
    exact Host.Outcome.next.inj next ▸ listOrdered_ifAddressed s q _ (fun t => listOrdered_offerParts _ _ _ t) before
  | queryPage1 q x =>
    refine Host.Outcome.next.inj next ▸ listOrdered_ifAddressed s q _ (fun t h => listOrdered_offerParts _ _ _ _ ?_) before
    split
    · exact h
    · exact h
  | queryPage2 q x =>
    exact Host.Outcome.next.inj next ▸ listOrdered_ifAddressed s q _ (fun t => listOrdered_offerParts _ _ _ t) before
  | noticeSent =>
    obtain rfl | ⟨n, _, rfl⟩ := exec_noticeSent_cases next
    · exact before
    · exact listOrdered_reads.frame (toldSent_frame _ n) (by decide) (listOrdered_drop (n := n) rfl before)
  | guardCut =>
    cases sending : s.line.sending with
    | none =>
      rw [exec_guardCut_of_quiet sending] at next
      exact Host.Outcome.next.inj next ▸ before
    | some n =>
      rw [exec_guardCut_of_sending sending] at next
      exact Host.Outcome.next.inj next ▸ listOrdered_reads.frame (toldLost_frame _ n) (by decide)
        (listOrdered_drop (n := n) rfl before)
  | hardReset x a b r =>
    obtain rfl := Host.Outcome.next.inj next
    exact ⟨.nil, Nat.zero_le _⟩
  | _ => exact nomatch touches_of_mem touched

end Sys2Proof.Machine
end

section
/-! SUPPORT. How an invariant of the claim pages is carried over the commands that change them (R96 to R104). -/

namespace Sys2Proof.Machine

/-- The changes made to a bound claim page: an own mark (R76), a listen mask (R98) and a peer's claim (R102). -/
inductive PageEdit : (Page → Page) → Prop
  | mark (n : Nat) (m : OwnMark) : PageEdit fun p => p.mark n m
  | listen (mask : Flags16) : PageEdit fun p => { p with listen := mask }
  | apply (sender : StationNo) (lo k : Nat) (loop : Bool) : PageEdit fun p => p.apply sender lo k loop

/-- An invariant of the claim pages: it reads them and the station state, outlives every change of a page, the
binding and the release of one, the acceptance of SETUP and the start of RUN, and holds without pages. -/
structure KeptByPages (I : State → Prop) : Prop where
  reads : Reads I [.pages, .mode]
  edit : ∀ s row f, PageEdit f → I s → I (s.setClaim (s.claim.changePage row f))
  bind : ∀ s row, s.ctl.mode ≠ .setup → I s → I (s.setClaim (s.claim.bind row s.width))
  release : ∀ s, I s → I s.releasePages
  accept : ∀ s r, s.ctl.mode = .setup → I s → I (s.acceptSetup r)
  intoRun : ∀ s, I s → I s.intoRun
  bare : ∀ s : State, s.claim.page0 = none → s.claim.page1 = none → I s

section Pages
variable {I : State → Prop} (kept : KeptByPages I)
include kept

theorem KeptByPages.arrive (s : State) (n : Nat) : I s → I (s.arrive n) := by
  refine kept.reads.arrive (fun s _ _ => kept.reads.frame (setDec_float_frame s _)) (fun s a n x h => ?_)
    (fun s n k x g => kept.reads.frame (enter_frame s n k x g))
    (fun s n h d => kept.reads.frame (request_frame s n h d)) (fun s => kept.reads.frame (leave_frame s))
    (by decide) s n
  unfold State.markOwn
  split
  · exact kept.edit _ _ _ (.mark _ _) h
  · exact h

theorem KeptByPages.contextBegun (s : State) (a : Active) (before : I s) : I (s.contextBegun a) := by
  have unchosen : Frame [.rowChoice, .cleanRead] s
      (s.setCourse { s.course with choice := none, cleanRead := false }) :=
    .of (.of_blanked rfl)
  have racked := (unchosen.then (applyRacking_frame _ a.order.racking)
    (n := [.posRacking, .posIndices, .rowChoice, .cleanRead])).then (setDec_float_frame _ 0)
    (n := [.posRacking, .posIndices, .rowChoice, .cleanRead, .float])
  have emptied : I _ := kept.reads.frame (racked.then (setClaim_run_frame _ none)
    (n := [.posRacking, .posIndices, .rowChoice, .cleanRead, .float, .openRun])) (by decide) before
  unfold State.contextBegun State.listenPage
  split
  · exact kept.edit _ _ _ (.listen _) emptied
  · exact emptied

theorem KeptByPages.directionChange (s : State) (dir : Dir) : I s → I (s.directionChange dir) :=
  kept.reads.directionChange kept.arrive
    (fun s a _ => kept.reads.endCourse (fun s => kept.reads.frame (closeOutcomes_frame s))
      (fun s => kept.reads.frame (detachFire_frame s)) (fun s n => kept.reads.frame (offer_frame s n))
      (fun s row clean => kept.reads.frame (releaseRows_frame s row clean)) kept.release (by decide) s a)
    (fun s dir _ => kept.reads.startCourse (fun s a => kept.reads.frame (loadBacking_frame s a)) kept.contextBegun
      (fun s => kept.reads.frame (prime_frame s)) (by decide) s dir)
    (by decide) s dir

theorem KeptByPages.takeOrder (s : State) (b : OrderBody) (beyond : s.ctl.mode ≠ .setup) (before : I s) :
    I (s.takeOrder b) := by
  obtain ⟨r, refused⟩ | ⟨o, _, _, accepted⟩ := s.takeOrder_cases b
  · exact refused ▸ kept.reads.frame (refuseOrder_frame s r) (by decide) before
  · have bound : I (s.pageBound o) := by
      unfold State.pageBound
      split
      · exact kept.bind s _ beyond before
      · exact before
    rw [accepted, State.acceptOrder_eq]
    exact kept.reads.frame ((queued_frame _ _).then (prime_frame _)
      (n := [.orderQueue, .standby, .standbyTake, .transmitList, .counts])) (by decide) bound

theorem KeptByPages.takeClaim (s : State) (q : StationNo) (b : ClaimBody) (before : I s) : I (s.takeClaim q b) := by
  have counted (t : State) (k : Counter) (h : I t) : I (t.bump k) := kept.reads.frame (bump_frame t k) (by decide) h
  unfold State.takeClaim
  split
  · exact before
  · split
    · exact counted _ _ before
    · split
      · exact counted _ _ before
      · exact counted _ _ (kept.edit _ _ _ (.apply _ _ _ _) before)

/-- Every command keeps the invariant, by the commands that change claim pages or the station state. -/
theorem KeptByPages.exec {c : Instr} {s t : State} (touched : ∃ p ∈ [Part.pages, .mode], p ∈ footprint c)
    (next : exec c s = .next t) (before : I s) : I t := by
  have ended : I s.endMark := kept.reads.frame (endMark_frame s) (by decide) before
  cases c with
  | encoderEdge a b => exact kept.reads.encoderEdge kept.arrive kept.directionChange (by decide) next before
  | referenceMark => exact kept.reads.referenceMark kept.arrive kept.intoRun (by decide) next before
  | order q b =>
    obtain ⟨beyond, rfl⟩ | elsewhere := exec_order_cases next
    · exact kept.takeOrder _ b beyond ended
    · exact kept.reads.frame elsewhere (by decide) before
  | claim q b =>
    obtain rfl | elsewhere := exec_claim_cases next
    · exact kept.takeClaim _ q b ended
    · exact kept.reads.frame elsewhere (by decide) before
  | setup q b =>
    obtain ⟨r, cleared, _, _, rfl⟩ | elsewhere := exec_setup_cases next
    · exact kept.accept _ r cleared ended
    · exact kept.reads.frame elsewhere (by decide) before
  | reset q =>
    obtain ⟨_, _, rfl⟩ | elsewhere := exec_reset_cases next
    · exact kept.reads.frame (clearedBlocks_courseReset_frame s.endMark) (by decide) (kept.bare _ rfl rfl)
    · exact kept.reads.frame elsewhere (by decide) before
  | hardReset x a b r =>
    obtain rfl := Host.Outcome.next.inj next
    exact kept.bare _ rfl rfl
  | _ => exact nomatch touches_of_mem touched

end Pages

/-! ### Pages of one kind -/

/-- Every bound page is of the kind `P`, which may depend on the working width. -/
def State.EachPage (P : Nat → Page → Prop) (s : State) : Prop :=
  (∀ p, s.claim.page0 = some p → P s.width p) ∧ ∀ p, s.claim.page1 = some p → P s.width p

section EachPage
variable {P : Nat → Page → Prop} {s : State}

theorem eachPage_setClaim {u : ClaimUnit} (page0 : ∀ p, u.page0 = some p → P s.width p)
    (page1 : ∀ p, u.page1 = some p → P s.width p) : (s.setClaim u).EachPage P := ⟨page0, page1⟩

theorem eachPage_changePage {row : Word16} {f : Page → Page} (edit : ∀ p, P s.width p → P s.width (f p))
    (before : s.EachPage P) : (s.setClaim (s.claim.changePage row f)).EachPage P := by
  have onRow_of (o : Option Page) (all : ∀ p, o = some p → P s.width p) (p : Page) (found : onRow row f o = some p) :
      P s.width p := by
    obtain ⟨q, rfl, rfl⟩ := Option.map_eq_some_iff.1 found
    split
    · exact edit q (all q rfl)
    · exact all q rfl
  exact eachPage_setClaim (onRow_of _ before.1) (onRow_of _ before.2)

theorem eachPage_bind {row : Word16} (fresh : P s.width (freshPage row s.width)) (before : s.EachPage P) :
    (s.setClaim (s.claim.bind row s.width)).EachPage P := by
  obtain ⟨page0, page1⟩ := before
  unfold ClaimUnit.bind
  split_ifs
  · exact ⟨page0, page1⟩
  · exact eachPage_setClaim (fun p bound => Option.some.inj bound ▸ fresh) page1
  · exact eachPage_setClaim page0 (fun p bound => Option.some.inj bound ▸ fresh)
  · exact ⟨page0, page1⟩

theorem keepPage_eq_some {c : CourseCtl} {o : Option Page} {p : Page} (kept : keepPage c o = some p) :
    o = some p := by
  unfold keepPage at kept
  split at kept
  · split at kept
    · exact kept
    · cases kept
  · cases kept

theorem eachPage_releasePages (before : s.EachPage P) : s.releasePages.EachPage P := by
  obtain ⟨page0, page1⟩ := before
  exact eachPage_setClaim (fun p h => page0 p (keepPage_eq_some h)) (fun p h => page1 p (keepPage_eq_some h))

end EachPage

end Sys2Proof.Machine
end

section
/-! PROOF. The claim pages cover the bed, no station is looped that is not heard, and no row has two pages (R95). -/

namespace Sys2Proof.Machine

/-! ### One page -/

theorem page_mark_inForm {p : Page} {w : Nat} (n : Nat) (m : OwnMark) (before : p.inForm w) :
    (p.mark n m).inForm w := by
  obtain ⟨covers, heard⟩ := before
  refine ⟨by simp [Page.mark, covers], fun e member => ?_⟩
  obtain old | new := List.mem_or_eq_of_mem_set member
  · exact heard e old
  · subst new
    change (p.entry n).looped &&& ~~~(p.entry n).heard = 0
    unfold Page.entry
    by_cases within : n < p.entries.length
    · rw [List.getD_eq_getElem _ _ within]
      exact heard _ (List.getElem_mem within)
    · rw [List.getD_eq_default _ _ (by omega)]
      decide

theorem entry_hear_inForm {e : PageEntry} (q : StationNo) (loop : Bool) (before : e.looped &&& ~~~e.heard = 0) :
    (e.hear q loop).looped &&& ~~~(e.hear q loop).heard = 0 := by
  have bits : ∀ i, i < 16 → (e.looped &&& ~~~e.heard).getLsbD i = false := fun i _ => by simp [before]
  refine BitVec.eq_of_getLsbD_eq fun i hi => ?_
  have bit := bits i hi
  simp only [BitVec.getLsbD_and, BitVec.getLsbD_not, hi, decide_true, Bool.true_and] at bit
  cases loop <;>
    simp only [PageEntry.hear, if_true, if_false, Bool.false_eq_true, BitVec.getLsbD_and, BitVec.getLsbD_not, hi,
      decide_true, Bool.true_and, getLsbD_setBit _ _ _ q.isLt] <;>
    grind

theorem changeFrom_length (f : PageEntry → PageEntry) (lo k : Nat) (l : List PageEntry) :
    (changeFrom f lo k l).length = l.length := by
  induction lo, k, l using changeFrom.induct <;> simp_all [changeFrom]

theorem mem_changeFrom {f : PageEntry → PageEntry} {lo k : Nat} {l : List PageEntry} {e : PageEntry}
    (member : e ∈ changeFrom f lo k l) : e ∈ l ∨ ∃ d ∈ l, e = f d := by
  induction lo, k, l using changeFrom.induct <;> simp_all [changeFrom] <;> grind

theorem page_apply_inForm {p : Page} {w : Nat} (q : StationNo) (lo k : Nat) (loop : Bool) (before : p.inForm w) :
    (p.apply q lo k loop).inForm w := by
  obtain ⟨covers, heard⟩ := before
  refine ⟨(changeFrom_length _ _ _ _).trans covers, fun e member => ?_⟩
  obtain old | ⟨d, old, rfl⟩ := mem_changeFrom member
  · exact heard e old
  · exact entry_hear_inForm q loop (heard d old)

theorem PageEdit.inForm {f : Page → Page} (edit : PageEdit f) {p : Page} {w : Nat} (before : p.inForm w) :
    (f p).inForm w := by
  cases edit with
  | mark n m => exact page_mark_inForm n m before
  | listen => exact before
  | apply q lo k loop => exact page_apply_inForm q lo k loop before

/-- A page stays bound to its row while it is changed. -/
theorem PageEdit.row {f : Page → Page} (edit : PageEdit f) (p : Page) : (f p).row = p.row := by
  cases edit <;> rfl

theorem freshPage_inForm (row : Word16) (w : Nat) : (freshPage row w).inForm w := by
  refine ⟨by simp [freshPage], fun e member => ?_⟩
  obtain rfl := List.eq_of_mem_replicate member
  decide

/-! ### Both pages -/

/-- No row has two pages (R95). -/
def State.OnePageARow (s : State) : Prop :=
  ∀ p q, s.claim.page0 = some p → s.claim.page1 = some q → p.row ≠ q.row

theorem pagesInForm_iff (s : State) : s.PagesInForm ↔
    (s.ctl.mode = .setup → s.claim.page0 = none ∧ s.claim.page1 = none) ∧
    s.EachPage (fun w p => p.inForm w) ∧ s.OnePageARow := by
  unfold State.PagesInForm State.EachPage State.OnePageARow
  tauto

theorem onePageARow_changePage {s : State} {row : Word16} {f : Page → Page} (edit : PageEdit f)
    (before : s.OnePageARow) : (s.setClaim (s.claim.changePage row f)).OnePageARow := by
  intro p q page0 page1
  obtain ⟨p', found0, rfl⟩ := Option.map_eq_some_iff.1 page0
  obtain ⟨q', found1, rfl⟩ := Option.map_eq_some_iff.1 page1
  have row_onRow (x : Page) : (if x.row = row then f x else x).row = x.row := by
    split
    · exact edit.row x
    · rfl
  rw [row_onRow, row_onRow]
  exact before p' q' found0 found1

theorem onePageARow_bind {s : State} {row : Word16} (before : s.OnePageARow) :
    (s.setClaim (s.claim.bind row s.width)).OnePageARow := by
  unfold ClaimUnit.bind
  split_ifs with bound free0 free1
  · exact before
  · intro p q page0 page1 same
    obtain rfl := Option.some.inj page0
    have found : s.claim.page1 = some q := page1
    simp_all [ClaimUnit.pageOf, freshPage]
  · intro p q page0 page1 same
    obtain rfl := Option.some.inj page1
    have found : s.claim.page0 = some p := page0
    simp_all [ClaimUnit.pageOf, freshPage]
  · exact before

theorem pagesInForm_reads : Reads State.PagesInForm [.pages, .mode] := by
  constructor
  intro s t same before
  obtain ⟨page0, page1⟩ : t.claim.page0 = s.claim.page0 ∧ t.claim.page1 = s.claim.page1 := same .pages (by decide)
  have mode : t.ctl.mode = s.ctl.mode := same .mode (by decide)
  have width : t.width = s.width := by simp only [State.width, State.param, State.setup?, mode]
  unfold State.PagesInForm
  rwa [page0, page1, mode, width]

theorem keptByPages_pagesInForm : KeptByPages State.PagesInForm where
  reads := pagesInForm_reads
  edit s row f edit before := by
    rw [pagesInForm_iff] at before ⊢
    obtain ⟨cleared, forms, apart⟩ := before
    refine ⟨fun setup => ?_, eachPage_changePage (fun p => edit.inForm) forms, onePageARow_changePage edit apart⟩
    obtain ⟨free0, free1⟩ := cleared setup
    simp [ClaimUnit.changePage, onRow, free0, free1]
  bind s row beyond before := by
    rw [pagesInForm_iff] at before ⊢
    obtain ⟨_, forms, apart⟩ := before
    exact ⟨fun setup => absurd setup beyond, eachPage_bind (freshPage_inForm _ _) forms, onePageARow_bind apart⟩
  release s before := by
    rw [pagesInForm_iff] at before ⊢
    obtain ⟨cleared, forms, apart⟩ := before
    refine ⟨fun setup => ?_, eachPage_releasePages forms,
      fun p q page0 page1 => apart p q (keepPage_eq_some page0) (keepPage_eq_some page1)⟩
    obtain ⟨free0, free1⟩ := cleared setup
    simp [State.releasePages, keepPage, free0, free1]
  accept s r cleared before := by
    obtain ⟨free0, free1⟩ := before.1 cleared
    have page0 : (s.acceptSetup r).claim.page0 = none := free0
    have page1 : (s.acceptSetup r).claim.page1 = none := free1
    simp [State.PagesInForm, page0, page1]
  intoRun s before := by
    have width : s.intoRun.width = s.width := by simp only [State.width, State.param, State.intoRun_setup?]
    obtain ⟨cleared, form0, form1, apart⟩ := before
    refine ⟨fun setup => cleared ?_, width ▸ form0, width ▸ form1, apart⟩
    cases mode : s.ctl.mode <;> simp_all [State.intoRun, Mode.referenced]
  bare s free0 free1 := by simp [State.PagesInForm, free0, free1]

/-- Settles O11, by the commands that change claim pages. -/
theorem stepKeepsTheClaimPagesInForm : Obligations.StepKeepsTheClaimPagesInForm := fun _ _ before next =>
  pagesInForm_reads.step keptByPages_pagesInForm.exec (by decide) next before

end Sys2Proof.Machine
end

section
/-! PROOF. Counters, queue, outcome list, backing table, page counts and health windows stay within their limits
(R46, R55, R56, R77, R103, R104, R166, R167, and 00, Times and counts). -/

namespace Sys2Proof.Machine

/-! ### The backing table -/

/-- The backing table has 1 to 32 entries, the phase names one of them, and so has a pending load (R55, R56). -/
structure State.BackingFits (s : State) : Prop where
  nonempty : 1 ≤ s.course.table.length
  short : s.course.table.length ≤ 32
  phase : s.course.phase < s.course.table.length
  shadow : ∀ l, s.course.shadow = some l → 1 ≤ l.length ∧ l.length ≤ 32

theorem backingFits_reads : Reads State.BackingFits [.backingTable, .backingPhase, .backingShadow] := by
  constructor
  intro s t same before
  have table : t.course.table = s.course.table := same .backingTable (by decide)
  have phase : t.course.phase = s.course.phase := same .backingPhase (by decide)
  have shadow : t.course.shadow = s.course.shadow := same .backingShadow (by decide)
  obtain ⟨nonempty, short, names, load⟩ := before
  exact ⟨table ▸ nonempty, table ▸ short, by rwa [phase, table], fun l pending => load l (shadow ▸ pending)⟩

theorem backingFits_takeBacking (s : State) (b : BackingBody) (before : s.BackingFits) :
    (s.takeBacking b).BackingFits := by
  unfold State.takeBacking
  split
  next fits =>
    obtain ⟨nonempty, short, phase, _⟩ := before
    refine ⟨nonempty, short, phase, fun l load => ?_⟩
    obtain rfl : BackingBody.table b = l := Option.some.inj load
    simpa [BackingBody.table, BackingBody.lengthOk] using fits
  · exact backingFits_reads.frame (setSticky_frame s _) (by decide) before

theorem backingFits_loadBacking (s : State) (a : Active) (before : s.BackingFits) : (s.loadBacking a).BackingFits := by
  obtain ⟨nonempty, short, phase, load⟩ := before
  have table : 1 ≤ (s.course.shadow.getD s.course.table).length ∧ (s.course.shadow.getD s.course.table).length ≤ 32 := by
    cases shadow : s.course.shadow with
    | none => exact ⟨nonempty, short⟩
    | some l => exact load l shadow
  have started : (if s.course.shadow.isSome then 0 else s.course.phase) <
      (s.course.shadow.getD s.course.table).length := by
    cases shadow : s.course.shadow with
    | none => exact phase
    | some l => exact (load l shadow).1
  refine ⟨table.1, table.2, ?_, by simp [State.loadBacking]⟩
  unfold State.loadBacking
  dsimp only [State.setCourse_course]
  split
  · exact Nat.mod_lt _ table.1
  · exact started

theorem exec_backingFits {c : Instr} {s t : State}
    (touched : ∃ p ∈ [Part.backingTable, .backingPhase, .backingShadow], p ∈ footprint c)
    (next : exec c s = .next t) (before : s.BackingFits) : t.BackingFits := by
  have arrive (s : State) (n : Nat) : s.BackingFits → (s.arrive n).BackingFits :=
    backingFits_reads.frame (arrive_frame s n)
  cases c with
  | encoderEdge a b =>
    refine backingFits_reads.encoderEdge arrive (backingFits_reads.directionChange arrive
      (fun s a _ => backingFits_reads.frame (endCourse_frame s a)) (fun s dir _ => ?_) (by decide)) (by decide)
      next before
    exact backingFits_reads.startCourse backingFits_loadBacking
      (fun s a => backingFits_reads.frame (contextBegun_frame s a)) (fun s => backingFits_reads.frame (prime_frame s))
      (by decide) s dir
  | backing q b =>
    obtain ⟨_, rfl⟩ | elsewhere := exec_backing_cases next
    · exact backingFits_takeBacking _ b (backingFits_reads.frame (endMark_frame s) (by decide) before)
    · exact backingFits_reads.frame elsewhere (by decide) before
  | reset q =>
    obtain ⟨_, _, rfl⟩ | elsewhere := exec_reset_cases next
    · obtain ⟨nonempty, short, phase, _⟩ := before
      refine backingFits_reads.frame (clearedBlocks_courseReset_frame _) (by decide) ⟨nonempty, short, phase, ?_⟩
      rintro l ⟨⟩
    · exact backingFits_reads.frame elsewhere (by decide) before
  | hardReset x a b r =>
    obtain rfl := Host.Outcome.next.inj next
    exact ⟨Nat.le_add_left 1 1, Nat.le_add_right 2 30, Nat.zero_lt_two, nofun⟩
  | _ => exact nomatch touches_of_mem touched

/-! ### The status counters -/

/-- Every status counter stops at 65,535. -/
def State.CountsFit (s : State) : Prop := ∀ k : Counter, s.count k ≤ 65535

theorem countsFit_of_rises {s t : State} (rises : Rises s t) (before : s.CountsFit) : t.CountsFit :=
  fun k => (rises.counts k (before k)).2

theorem count_of_zeroed {s : State} (k : Counter) : (s.setCounts (Vector.replicate 41 0)).count k = 0 := by
  simp [State.count]

theorem exec_countsFit {c : Instr} {s t : State} (next : exec c s = .next t) (before : s.CountsFit) :
    t.CountsFit := by
  by_cases rising : lowers c = false
  · exact countsFit_of_rises (exec_rises next rising) before
  obtain ⟨q⟩ | ⟨q⟩ | ⟨q, x⟩ | ⟨x, a, b, r⟩ := lowering_of_lowers (c := c) (by simpa using rising)
  · have same : t.counts = s.counts := exec_same next .counts (by simp [footprint, noticeParts])
    exact fun k => by rw [State.count, same]; exact before k
  · have same : t.counts = s.counts := exec_same next .counts (by simp [footprint, noticeParts])
    exact fun k => by rw [State.count, same]; exact before k
  · obtain rfl := Host.Outcome.next.inj next
    obtain ⟨_, _, taken⟩ | elsewhere := s.ifAddressed_cases q fun t => t.answerPage1 (isSet x)
    · rw [taken]
      refine countsFit_of_rises (offerParts_frame 1 0 _ _).rises ?_
      split
      · exact fun k => (count_of_zeroed k).le.trans (Nat.zero_le _)
      · exact countsFit_of_rises (endMark_frame s).rises before
    · exact countsFit_of_rises elsewhere.rises before
  · obtain rfl := Host.Outcome.next.inj next
    exact fun k => (count_of_zeroed (s := s) k).le.trans (Nat.zero_le _)

/-! ### The order queue -/

/-- The order queue holds 8 orders at most (R46). -/
def State.QueueFits (s : State) : Prop := s.course.queue.length ≤ 8

theorem queueFits_reads : Reads State.QueueFits [.orderQueue] := by
  constructor
  intro s t same before
  have queue : t.course.queue = s.course.queue := same .orderQueue (by decide)
  unfold State.QueueFits
  rwa [queue]

theorem queueFits_prime (s : State) (before : s.QueueFits) : s.prime.QueueFits := by
  unfold State.prime
  split
  next o os _ queue =>
    refine queueFits_reads.frame (standbyTakeFor_frame _ o) (by decide) ?_
    rw [State.QueueFits, queue] at before
    exact (Nat.le_succ os.length).trans before
  · exact before

/-- An order is accepted only while the queue has room (R42). -/
theorem State.queue_of_unrefused {s : State} {o : Order} (unrefused : s.refusalOf o = none) :
    s.course.queue.length < 8 := by
  unfold State.refusalOf at unrefused
  split at unrefused
  · cases unrefused
  next room => exact Nat.lt_of_not_le room

theorem queueFits_takeOrder (s : State) (b : OrderBody) (before : s.QueueFits) : (s.takeOrder b).QueueFits := by
  obtain ⟨r, refused⟩ | ⟨o, _, unrefused, accepted⟩ := s.takeOrder_cases b
  · exact refused ▸ queueFits_reads.frame (refuseOrder_frame s r) (by decide) before
  · have room := State.queue_of_unrefused unrefused
    have bound : (s.pageBound o).course.queue = s.course.queue := (pageBound_frame s o).get .orderQueue
    rw [accepted, State.acceptOrder_eq]
    refine queueFits_prime _ ?_
    simp only [State.QueueFits, State.queued, State.setCourse_course, bound, List.length_append, List.length_singleton]
    omega

theorem exec_queueFits {c : Instr} {s t : State} (touched : ∃ p ∈ [Part.orderQueue], p ∈ footprint c)
    (next : exec c s = .next t) (before : s.QueueFits) : t.QueueFits := by
  have arrive (s : State) (n : Nat) : s.QueueFits → (s.arrive n).QueueFits :=
    queueFits_reads.frame (arrive_frame s n)
  cases c with
  | encoderEdge a b =>
    refine queueFits_reads.encoderEdge arrive (queueFits_reads.directionChange arrive
      (fun s a _ => queueFits_reads.frame (endCourse_frame s a)) (fun s dir _ => ?_) (by decide)) (by decide) next before
    exact queueFits_reads.startCourse (fun s a => queueFits_reads.frame (loadBacking_frame s a))
      (fun s a => queueFits_reads.frame (contextBegun_frame s a)) queueFits_prime (by decide) s dir
  | order q b =>
    obtain ⟨_, rfl⟩ | elsewhere := exec_order_cases next
    · exact queueFits_takeOrder _ b (queueFits_reads.frame (endMark_frame s) (by decide) before)
    · exact queueFits_reads.frame elsewhere (by decide) before
  | reset q =>
    obtain ⟨_, _, rfl⟩ | elsewhere := exec_reset_cases next
    · exact queueFits_reads.frame (clearedBlocks_courseReset_frame _) (by decide) (Nat.zero_le 8)
    · exact queueFits_reads.frame elsewhere (by decide) before
  | hardReset x a b r =>
    obtain rfl := Host.Outcome.next.inj next
    exact Nat.zero_le 8
  | _ => exact nomatch touches_of_mem touched

/-! ### The outcome list -/

/-- The outcome list holds 8 entries at most (R77). -/
def State.OutcomesFit (s : State) : Prop := s.dec.outcomes.length ≤ 8

theorem outcomesFit_reads : Reads State.OutcomesFit [.outcomes] := by
  constructor
  intro s t same before
  have outcomes : t.dec.outcomes = s.dec.outcomes := same .outcomes (by decide)
  unfold State.OutcomesFit
  rwa [outcomes]

theorem outcomesFit_setDec {s : State} {d : Decision} (short : d.outcomes.length ≤ 8) : (s.setDec d).OutcomesFit :=
  short

theorem outcomesFit_leave (s : State) (before : s.OutcomesFit) : s.leave.OutcomesFit := by
  have left : s.leave.dec.outcomes = s.dec.outcomes.dropWhile fun e => e.outcome.isSome := leaveFrom_outcomes _ s
  rw [State.OutcomesFit, left]
  exact (List.dropWhile_suffix _).length_le.trans before

theorem outcomesFit_resolve (s : State) (n : Nat) (o : NeedleOutcome) (before : s.OutcomesFit) :
    (s.resolve n o).OutcomesFit :=
  outcomesFit_setDec ((List.length_map _).le.trans before)

theorem outcomesFit_answer (s : State) (n : Nat) (o : NeedleOutcome) (before : s.OutcomesFit) :
    (s.answer n o).OutcomesFit := outcomesFit_leave _ (outcomesFit_resolve s n o before)

theorem breakTail_length (l : List Entry) : (breakTail l).length = l.length := by
  unfold breakTail
  split
  next e last =>
    obtain ⟨before, rfl⟩ := List.getLast?_eq_some_iff.1 last
    simp
  · rfl

theorem outcomesFit_enter (s : State) (n : Nat) (k : Bool) (x : Action) (g : Bool) (before : s.OutcomesFit) :
    (s.enter n k x g).OutcomesFit := by
  unfold State.enter
  split
  next room =>
    refine outcomesFit_setDec ?_
    rw [List.length_append]
    exact room
  · split
    · refine outcomesFit_reads.frame ((setTally_frame _ _).then (bump_frame _ _) (n := [.tally, .counts])) (by decide)
        (outcomesFit_setDec (s := s) (?_ : (breakTail s.dec.outcomes).length ≤ 8))
      exact (breakTail_length _).le.trans before
    · exact before

theorem outcomesFit_request (s : State) (n : Nat) (h : Height) (travel : Dir) (before : s.OutcomesFit) :
    (s.request n h travel).OutcomesFit := by
  have waits (q : Request) : (s.replaceWaiting q).OutcomesFit := by
    have replaced := outcomesFit_reads.frame (setHead_waiting_frame s (some q)) (by decide) before
    unfold State.replaceWaiting
    split
    · exact outcomesFit_resolve _ _ _ replaced
    · exact replaced
  unfold State.request
  split_ifs
  · exact outcomesFit_resolve _ _ _ before
  · exact outcomesFit_resolve _ _ _ before
  · exact outcomesFit_resolve _ _ _ before
  · exact waits _
  · exact outcomesFit_resolve _ _ _ before
  · exact outcomesFit_reads.frame (startFire_frame s n h) (by decide) before

theorem outcomesFit_arrive (s : State) (n : Nat) : s.OutcomesFit → (s.arrive n).OutcomesFit :=
  outcomesFit_reads.arrive (fun s _ _ => outcomesFit_reads.frame (setDec_float_frame s _))
    (fun s a n x => outcomesFit_reads.frame (markOwn_frame s a n x)) outcomesFit_enter outcomesFit_request
    outcomesFit_leave (by decide) s n

theorem outcomesFit_closeOutcomes (s : State) (before : s.OutcomesFit) : s.closeOutcomes.OutcomesFit := by
  have ended : (s.setDec { s.dec with outcomes := s.dec.outcomes.map endEntry }).OutcomesFit :=
    outcomesFit_setDec ((List.length_map _).le.trans before)
  exact outcomesFit_reads.frame ((closeRun_frame _).then (setDec_float_frame _ 0)
    (n := [.float, .openRun, .courseFlags, .transmitList, .counts])) (by decide) (outcomesFit_leave _ ended)

theorem exec_outcomesFit {c : Instr} {s t : State} (touched : ∃ p ∈ [Part.outcomes], p ∈ footprint c)
    (next : exec c s = .next t) (before : s.OutcomesFit) : t.OutcomesFit := by
  cases c with
  | encoderEdge a b =>
    refine outcomesFit_reads.encoderEdge outcomesFit_arrive (outcomesFit_reads.directionChange outcomesFit_arrive
      (fun s a _ => ?_) (fun s dir _ => outcomesFit_reads.frame (startCourse_frame s dir)) (by decide)) (by decide)
      next before
    exact outcomesFit_reads.endCourse outcomesFit_closeOutcomes (fun s => outcomesFit_reads.frame (detachFire_frame s))
      (fun s n => outcomesFit_reads.frame (offer_frame s n))
      (fun s row clean => outcomesFit_reads.frame (releaseRows_frame s row clean))
      (fun s => outcomesFit_reads.frame (releasePages_frame s)) (by decide) s a
  | referenceMark =>
    exact outcomesFit_reads.referenceMark outcomesFit_arrive (fun s => outcomesFit_reads.frame (intoRun_frame s))
      (by decide) next before
  | headConfirm => exact outcomesFit_reads.headConfirm outcomesFit_answer (by decide) next before
  | fireDeadline => exact outcomesFit_reads.fireDeadline outcomesFit_answer (by decide) next before
  | reset q =>
    obtain ⟨_, _, rfl⟩ | elsewhere := exec_reset_cases next
    · exact outcomesFit_reads.frame (clearedBlocks_courseReset_frame _) (by decide) (Nat.zero_le 8)
    · exact outcomesFit_reads.frame elsewhere (by decide) before
  | hardReset x a b r =>
    obtain rfl := Host.Outcome.next.inj next
    exact Nat.zero_le 8
  | _ => exact nomatch touches_of_mem touched

/-! ### The claim pages -/

/-- Both counts of every bound page saturate (R103, R104). -/
def State.PagesFit (s : State) : Prop := s.EachPage fun _ p => p.countsFit

theorem pageEdit_countsFit {f : Page → Page} (edit : PageEdit f) {p : Page} (before : p.countsFit) :
    (f p).countsFit := by
  obtain ⟨doubles, late⟩ := before
  cases edit with
  | mark | listen => exact ⟨doubles, late⟩
  | apply q lo k loop =>
    constructor
    · unfold Page.apply
      dsimp only
      split
      · exact Nat.min_le_right _ _
      · exact doubles
    · unfold Page.apply
      dsimp only
      split
      · exact Nat.min_le_right _ _
      · exact late

theorem pagesFit_of_pages {s t : State} (page0 : t.claim.page0 = s.claim.page0) (page1 : t.claim.page1 = s.claim.page1)
    (before : s.PagesFit) : t.PagesFit := by
  obtain ⟨fits0, fits1⟩ := before
  exact ⟨fun p found => fits0 p (page0 ▸ found), fun p found => fits1 p (page1 ▸ found)⟩

theorem keptByPages_pagesFit : KeptByPages State.PagesFit where
  reads := ⟨fun _ _ same => pagesFit_of_pages (same .pages (by decide)).1 (same .pages (by decide)).2⟩
  edit _ _ _ edit := eachPage_changePage fun _ => pageEdit_countsFit edit
  bind _ _ _ := eachPage_bind ⟨Nat.zero_le _, Nat.zero_le _⟩
  release _ := eachPage_releasePages
  accept _ _ _ := pagesFit_of_pages rfl rfl
  intoRun _ := pagesFit_of_pages rfl rfl
  bare _ free0 free1 := ⟨fun p found => by simp [free0] at found, fun p found => by simp [free1] at found⟩

/-! ### The health windows -/

/-- A window counts 255 errors at most, and 16 clean windows are enough (R166, R167). -/
def State.WindowsFit (s : State) : Prop := s.line.windowErrors ≤ 255 ∧ s.line.cleanWindows ≤ 16

theorem windowsFit_reads : Reads State.WindowsFit [.windowErrors, .cleanWindows] := by
  constructor
  intro s t same before
  have errors : t.line.windowErrors = s.line.windowErrors := same .windowErrors (by decide)
  have clean : t.line.cleanWindows = s.line.cleanWindows := same .cleanWindows (by decide)
  unfold State.WindowsFit
  rwa [errors, clean]

theorem windowsFit_degrade (s : State) (before : s.WindowsFit) : s.degrade.WindowsFit := by
  have degraded : ((s.setLine { s.line with degraded := true, cleanWindows := 0 }).bump .degradations).WindowsFit :=
    windowsFit_reads.frame (bump_frame _ _) (by decide) ⟨before.1, Nat.zero_le 16⟩
  unfold State.degrade
  dsimp only
  split
  · exact windowsFit_reads.frame (setCourseFlag_frame _ _) (by decide) degraded
  · exact degraded

theorem windowsFit_noteError (s : State) (before : s.WindowsFit) : s.noteError.WindowsFit := by
  have clean : s.line.cleanWindows ≤ 16 := before.2
  unfold State.noteError
  split
  · exact before
  · have noted : (s.setLine { s.line with
        windowErrors := min (s.line.windowErrors + 1) Config.windowErrorMax }).WindowsFit :=
      ⟨Nat.min_le_right _ _, clean⟩
    dsimp only
    split
    · exact windowsFit_degrade _ noted
    · exact noted

theorem windowsFit_endWindow {s : State} (before : s.WindowsFit) : (s.setLine s.line.endWindow).WindowsFit := by
  obtain ⟨_, clean⟩ := before
  refine ⟨Nat.zero_le _, ?_⟩
  change (if s.line.windowErrors = 0 then min (s.line.cleanWindows + 1) Config.cleanMax else 0) ≤ 16
  split
  · exact Nat.min_le_right _ _
  · exact Nat.zero_le _

theorem windowsFit_heard (s : State) (f : State → State) (taken : ∀ t, t.WindowsFit → (f t).WindowsFit)
    (before : s.WindowsFit) : (s.heard f).WindowsFit := by
  obtain ⟨_, heard⟩ | deaf := s.heard_cases f
  · exact heard ▸ taken _ (windowsFit_reads.frame (endMark_frame s) (by decide) before)
  · rwa [deaf]

theorem exec_windowsFit {c : Instr} {s t : State}
    (touched : ∃ p ∈ [Part.windowErrors, .cleanWindows], p ∈ footprint c)
    (next : exec c s = .next t) (before : s.WindowsFit) : t.WindowsFit := by
  cases c with
  | setup q b =>
    obtain ⟨r, _, _, _, rfl⟩ | elsewhere := exec_setup_cases next
    · exact ⟨Nat.zero_le _, Nat.zero_le _⟩
    · exact windowsFit_reads.frame elsewhere (by decide) before
  | lineError kind =>
    obtain rfl := Host.Outcome.next.inj next
    exact windowsFit_heard s _ (fun t h =>
      windowsFit_noteError _ (windowsFit_reads.frame (bump_frame t _) (by decide) h)) before
  | symbolError =>
    obtain rfl := Host.Outcome.next.inj next
    exact windowsFit_heard s _ (fun t h =>
      windowsFit_noteError _ (windowsFit_reads.frame (bump_frame _ _) (by decide) ⟨h.1, h.2⟩)) before
  | lineWindowEnd =>
    simp only [exec, execLineWindowEnd] at next
    split at next
    · exact Host.Outcome.next.inj next ▸ before
    · exact Host.Outcome.next.inj next ▸ windowsFit_endWindow before
  | hardReset x a b r =>
    obtain rfl := Host.Outcome.next.inj next
    exact ⟨Nat.zero_le _, Nat.zero_le _⟩
  | _ => exact nomatch touches_of_mem touched

/-! ### Together -/

theorem withinLimits_iff (s : State) : s.WithinLimits ↔
    s.CountsFit ∧ s.QueueFits ∧ s.OutcomesFit ∧ s.BackingFits ∧ s.PagesFit ∧ s.WindowsFit := by
  constructor
  · rintro ⟨counts, queue, outcomes, nonempty, short, phase, shadow, page0, page1, windows⟩
    exact ⟨counts, queue, outcomes, ⟨nonempty, short, phase, shadow⟩, ⟨page0, page1⟩, windows⟩
  · rintro ⟨counts, queue, outcomes, ⟨nonempty, short, phase, shadow⟩, ⟨page0, page1⟩, windows⟩
    exact ⟨counts, queue, outcomes, nonempty, short, phase, shadow, page0, page1, windows⟩

theorem countsFit_step {s t : State} (next : step s = .next t) (before : s.CountsFit) : t.CountsFit := by
  obtain rfl | ⟨c, u, taken, next⟩ := step_cases next
  · exact before
  · have counts : u.counts = s.counts := taken .counts (by decide)
    exact exec_countsFit next fun k => by rw [State.count, counts]; exact before k

theorem step_withinLimits {s t : State} (before : s.WithinLimits) (next : step s = .next t) : t.WithinLimits := by
  rw [withinLimits_iff] at before ⊢
  obtain ⟨counts, queue, outcomes, backing, pages, windows⟩ := before
  exact ⟨countsFit_step next counts, queueFits_reads.step exec_queueFits (by decide) next queue,
    outcomesFit_reads.step exec_outcomesFit (by decide) next outcomes,
    backingFits_reads.step exec_backingFits (by decide) next backing,
    keptByPages_pagesFit.reads.step keptByPages_pagesFit.exec (by decide) next pages,
    windowsFit_reads.step exec_windowsFit (by decide) next windows⟩

end Sys2Proof.Machine
end

section
/-! PROOF. The open run stays below the run limit, and the fault count within the fault limit (R89, R90, R118). -/

namespace Sys2Proof.Machine

/-! ### The open run -/

theorem setup?_of_mode {s t : State} (mode : t.ctl.mode = s.ctl.mode) : t.setup? = s.setup? :=
  congrArg Mode.setup? mode

theorem State.param_of_cleared {α : Type} {s : State} (cleared : s.setup? = none) (f : SetupRec → α) (x : α) :
    s.param f x = x := by simp only [State.param, cleared]

theorem State.param_of_setup {α : Type} {s : State} {r : SetupRec} (taken : s.setup? = some r) (f : SetupRec → α)
    (x : α) : s.param f x = f r := by simp only [State.param, taken]

/-- A reference load keeps the setup record (R178). -/
theorem State.loadReference_setup? (s : State) (r : SetupRec) : (s.loadReference r).setup? = s.setup? := by
  have before := (checkSlip_frame s r).then (atKref_frame _ r)
    (n := [.posC, .posTracker, .posReferenced, .sticky, .causes, .latch])
  have rest := (form_frame ((s.checkSlip r).atKref r).intoRun).then (arrivals_frame _)
    (n := .posFrontier :: .posIndices :: judgeParts ++ arrivalParts)
  exact (setup?_of_mode (rest.get .mode)).trans ((State.intoRun_setup? _).trans (setup?_of_mode (before.get .mode)))

theorem runBelowLimit_reads : Reads State.RunBelowLimit [.openRun, .mode] := by
  constructor
  intro s t same before
  have run : t.claim.run = s.claim.run := same .openRun (by decide)
  have taken : t.setup? = s.setup? := setup?_of_mode (same .mode (by decide))
  unfold State.RunBelowLimit
  rwa [run, taken]

theorem runBelowLimit_of_none {s : State} (none : s.claim.run = none) : s.RunBelowLimit := by
  simp [State.RunBelowLimit, none]

theorem formClaim_run (s : State) (r : OpenRun) : (s.formClaim r).claim.run = s.claim.run :=
  (formClaim_frame s r).get .openRun

/-- No run is open once it has closed (R90). -/
theorem closeRun_run (s : State) : s.closeRun.claim.run = none := by
  unfold State.closeRun
  split
  · assumption
  · exact formClaim_run _ _

theorem runBelowLimit_closeRun (s : State) (_before : s.RunBelowLimit) : s.closeRun.RunBelowLimit :=
  runBelowLimit_of_none (closeRun_run s)

/-- A run that takes in a result closes at its limit, so what stays open is shorter (R89, R90). -/
theorem runBelowLimit_joinRun (s : State) (a : Active) (n : Nat) (x : NeedleResult) :
    (s.joinRun a n x).RunBelowLimit := by
  have counts : 1 ≤ (extendRun s.claim.run n x).count := by
    unfold extendRun
    split
    · split
      · exact Nat.le_add_left _ _
      · exact le_rfl
    · exact le_rfl
  unfold State.joinRun
  dsimp only
  split
  · exact runBelowLimit_of_none (closeRun_run _)
  next below =>
    obtain ⟨short, _⟩ := not_or.1 below
    refine ⟨fun cleared => ?_, fun r y taken run => ?_⟩
    · rw [State.param_of_cleared cleared] at short
      exact absurd counts short
    · obtain rfl := Option.some.inj run
      rw [State.param_of_setup taken] at short
      exact Nat.lt_of_not_le short

theorem runBelowLimit_handRun (s : State) (a : Active) (n : Nat) (x : NeedleResult) (_before : s.RunBelowLimit) :
    (s.handRun a n x).RunBelowLimit := runBelowLimit_joinRun (s.closeDiffering x) a n x

theorem runBelowLimit_leave (s : State) : s.RunBelowLimit → s.leave.RunBelowLimit :=
  runBelowLimit_reads.leave runBelowLimit_closeRun runBelowLimit_handRun (by decide) s

theorem runBelowLimit_answer (s : State) (n : Nat) (o : NeedleOutcome) (before : s.RunBelowLimit) :
    (s.answer n o).RunBelowLimit :=
  runBelowLimit_leave _ (runBelowLimit_reads.frame (resolve_frame s n o) (by decide) before)

theorem runBelowLimit_closeOutcomes (s : State) (_before : s.RunBelowLimit) : s.closeOutcomes.RunBelowLimit :=
  runBelowLimit_of_none (closeRun_run _)

theorem runBelowLimit_arrive (s : State) (n : Nat) : s.RunBelowLimit → (s.arrive n).RunBelowLimit :=
  runBelowLimit_reads.arrive (fun s _ _ => runBelowLimit_reads.frame (setDec_float_frame s _))
    (fun s a n x => runBelowLimit_reads.frame (markOwn_frame s a n x))
    (fun s n k x g => runBelowLimit_reads.frame (enter_frame s n k x g))
    (fun s n h d => runBelowLimit_reads.frame (request_frame s n h d)) runBelowLimit_leave (by decide) s n

theorem contextBegun_run (s : State) (a : Active) : (s.contextBegun a).claim.run = none :=
  (listenPage_frame _ a).get .openRun

theorem exec_runBelowLimit {c : Instr} {s t : State} (touched : ∃ p ∈ [Part.openRun, .mode], p ∈ footprint c)
    (next : exec c s = .next t) (before : s.RunBelowLimit) : t.RunBelowLimit := by
  cases c with
  | encoderEdge a b =>
    refine runBelowLimit_reads.encoderEdge runBelowLimit_arrive (runBelowLimit_reads.directionChange
      runBelowLimit_arrive (fun s a _ => ?_) (fun s dir _ => ?_) (by decide)) (by decide) next before
    · exact runBelowLimit_reads.endCourse runBelowLimit_closeOutcomes
        (fun s => runBelowLimit_reads.frame (detachFire_frame s)) (fun s n => runBelowLimit_reads.frame (offer_frame s n))
        (fun s row clean => runBelowLimit_reads.frame (releaseRows_frame s row clean))
        (fun s => runBelowLimit_reads.frame (releasePages_frame s)) (by decide) s a
    · exact runBelowLimit_reads.startCourse (fun s a => runBelowLimit_reads.frame (loadBacking_frame s a))
        (fun s a _ => runBelowLimit_of_none (contextBegun_run s a))
        (fun s => runBelowLimit_reads.frame (prime_frame s)) (by decide) s dir
  | referenceMark =>
    refine runBelowLimit_reads.referenceMark runBelowLimit_arrive (fun s before => ?_) (by decide) next before
    unfold State.RunBelowLimit
    rwa [State.intoRun_setup?]
  | headConfirm => exact runBelowLimit_reads.headConfirm runBelowLimit_answer (by decide) next before
  | fireDeadline => exact runBelowLimit_reads.fireDeadline runBelowLimit_answer (by decide) next before
  | setup q b =>
    obtain ⟨r, cleared, _, _, rfl⟩ | elsewhere := exec_setup_cases next
    · exact runBelowLimit_of_none (before.1 (congrArg Mode.setup? cleared))
    · exact runBelowLimit_reads.frame elsewhere (by decide) before
  | reset q =>
    obtain ⟨_, _, rfl⟩ | elsewhere := exec_reset_cases next
    · exact runBelowLimit_of_none ((clearedBlocks_courseReset_frame s.endMark).get .openRun)
    · exact runBelowLimit_reads.frame elsewhere (by decide) before
  | hardReset x a b r =>
    obtain rfl := Host.Outcome.next.inj next
    exact runBelowLimit_of_none rfl
  | _ => exact nomatch touches_of_mem touched

/-! ### The fault count -/

theorem State.arrivals_of_noCourse {s : State} (noCourse : s.course.active = none) : s.arrivals = s := by
  simp only [State.arrivals, noCourse]

/-- Outside RUN and a course an edge moves the position unit and the carrier it judges, and no more. -/
theorem exec_encoderEdge_frame_of_noCourse {a b : Bool} {s t : State} (outsideRun : ∀ r, s.ctl.mode ≠ .run r)
    (noCourse : s.course.active = none) (next : exec (.encoderEdge a b) s = .next t) : Frame edgeParts s t := by
  have phased : Frame edgeParts s (s.takePhase a b) := (takePhase_frame s a b).mono
  have formed (d : Int) : Frame edgeParts s ((s.takePhase a b).counting d).form :=
    (phased.then (counting_frame _ d) (n := edgeParts)).then (form_frame _)
  obtain rfl | rfl | rfl | ⟨d, _, _, _, rfl⟩ | ⟨d, dir, _, _, _, rfl⟩ := exec_encoderEdge_cases next
  · exact phased
  · exact (phased.then (setSticky_frame _ _) (n := edgeParts)).then (bump_frame _ _)
  · exact phased.then (setSticky_frame _ _)
  · rw [State.arrivals_of_noCourse (((formed d).get .active).trans noCourse)]
    exact formed d
  · rw [State.directionChange_of_notRun fun r run => outsideRun r (((formed d).get .mode).symm.trans run)]
    exact formed d

theorem faultsWithinLimit_reads :
    Reads State.FaultsWithinLimit [.headFire, .headFaults, .headDisabled, .mode] := by
  constructor
  intro s t same before
  have fire : t.head.fire = s.head.fire := same .headFire (by decide)
  have faults : t.head.faults = s.head.faults := same .headFaults (by decide)
  have disabled : t.head.disabled = s.head.disabled := same .headDisabled (by decide)
  have taken : t.setup? = s.setup? := setup?_of_mode (same .mode (by decide))
  unfold State.FaultsWithinLimit
  rwa [fire, faults, disabled, taken]

/-- With a record taken, only the fault count and the head's state matter. -/
theorem faultsWithinLimit_of_setup {s t : State} {r : SetupRec} (taken : s.setup? = some r)
    (same : t.setup? = s.setup?) (faults : t.head.faults = s.head.faults)
    (disabled : t.head.disabled = s.head.disabled) (before : s.FaultsWithinLimit) : t.FaultsWithinLimit := by
  refine ⟨fun cleared => by simp [same, taken] at cleared, fun r' taken' => ?_⟩
  rw [faults, disabled]
  exact before.2 r' (same ▸ taken')

/-- The count of faults that a head without faults keeps. -/
theorem faultsWithinLimit_of_zero {s : State} {r : SetupRec} (taken : s.setup? = some r) (faults : s.head.faults = 0)
    (limit : 1 ≤ r.faultLimit) : s.FaultsWithinLimit := by
  refine ⟨fun cleared => by simp [taken] at cleared, fun r' taken' => ?_⟩
  obtain rfl := Option.some.inj (taken.symm.trans taken')
  rw [faults]
  exact ⟨Nat.zero_le _, fun _ => limit⟩

theorem SetupRec.inRange.faultLimit {r : SetupRec} (inRange : r.inRange) : 1 ≤ r.faultLimit := by
  obtain ⟨_, _, _, _, _, _, _, _, _, _, _, _, _, limit, _⟩ := inRange
  exact limit

section Command
variable {s t : State} (position : s.PositionAgrees) (head : s.HeadAgrees) (before : s.FaultsWithinLimit)
include position head before

omit head in
theorem faultsWithinLimit_headConfirm (next : exec .headConfirm s = .next t) : t.FaultsWithinLimit := by
  cases firing : s.head.fire with
  | none =>
    rw [exec_headConfirm_of_idle firing] at next
    exact Host.Outcome.next.inj next ▸ faultsWithinLimit_reads.frame (bump_frame s _) (by decide) before
  | some f =>
    rw [exec_headConfirm_of_fire firing] at next
    have rest := (answerIf_frame (s.fireConfirmed f) f.needle .done).then (serve_frame _)
      (n := ([.headHeight, .headCode, .headFire, .headWaiting] : List Part) ++ leaveParts)
    obtain rfl := Host.Outcome.next.inj next
    cases taken : s.setup? with
    | none => simp [(before.1 taken).1] at firing
    | some r =>
      exact faultsWithinLimit_of_zero ((setup?_of_mode (rest.get .mode)).trans taken) (rest.get .headFaults)
        (position.1 r taken).faultLimit

omit position in
theorem faultsWithinLimit_fireDeadline (next : exec .fireDeadline s = .next t) : t.FaultsWithinLimit := by
  cases firing : s.head.fire with
  | none =>
    rw [exec_fireDeadline_of_idle firing] at next
    exact Host.Outcome.next.inj next ▸ before
  | some f =>
    rw [exec_fireDeadline_of_fire firing] at next
    obtain rfl := Host.Outcome.next.inj next
    cases taken : s.setup? with
    | none => simp [(before.1 taken).1] at firing
    | some r =>
      have enabled : s.head.disabled = false := by
        by_contra disabled
        simp [(head.2.2 (by simpa using disabled)).2.1] at firing
      have below : s.head.faults < r.faultLimit := (before.2 r taken).2 enabled
      have answered := answerIf_frame s.fireFaulted f.needle .fault
      have faults : (s.fireFaulted.answerIf f.needle .fault).head.faults = s.head.faults + 1 := answered.get .headFaults
      have kept : (s.fireFaulted.answerIf f.needle .fault).setup? = some r :=
        (setup?_of_mode (answered.get .mode)).trans taken
      have rest := serve_frame (s.fireFaulted.answerIf f.needle .fault).judgeFaults
      have judged := judgeFaults_frame (s.fireFaulted.answerIf f.needle .fault)
      refine ⟨fun cleared => ?_, fun r' taken' => ?_⟩
      · simp [setup?_of_mode (rest.get .mode), setup?_of_mode (judged.get .mode), kept] at cleared
      · obtain rfl : r = r' := by
          simpa [setup?_of_mode (rest.get .mode), setup?_of_mode (judged.get .mode), kept] using taken'
        rw [show _ = _ from rest.get .headFaults, show _ = _ from rest.get .headDisabled,
          show _ = _ from judged.get .headFaults, State.judgeFaults_disabled, faults]
        refine ⟨below, fun ready => ?_⟩
        have short : ¬ r.faultLimit ≤ s.head.faults + 1 := by
          simpa [State.faultLimitReached, State.param_of_setup kept, faults] using (Bool.or_eq_false_iff.1 ready).2
        omega

omit head in
theorem faultsWithinLimit_courseReset : s.courseReset.FaultsWithinLimit := by
  have rest := clearedBlocks_courseReset_frame s
  refine faultsWithinLimit_reads.frame rest (by decide) ⟨fun cleared => ?_, fun r taken => ?_⟩
  · obtain ⟨idle, _, _⟩ := before.1 cleared
    refine ⟨?_, rfl, rfl⟩
    simp [State.clearedBlocks, State.resetLine, State.resetHead, State.detachFire, State.resetClaims, State.resetRows,
      State.resetCourse, idle]
  · exact ⟨Nat.zero_le _, fun _ => (position.1 r taken).faultLimit⟩

omit head in
theorem faultsWithinLimit_encoderEdge {a b : Bool} (next : exec (.encoderEdge a b) s = .next t) :
    t.FaultsWithinLimit := by
  have same := exec_same next
  have mode : t.setup? = s.setup? := setup?_of_mode (same .mode (by simp [footprint, arrivalParts]))
  have faults : t.head.faults = s.head.faults := same .headFaults (by simp [footprint, arrivalParts])
  have disabled : t.head.disabled = s.head.disabled := same .headDisabled (by simp [footprint, arrivalParts])
  cases taken : s.setup? with
  | some r => exact faultsWithinLimit_of_setup taken mode faults disabled before
  | none =>
    have outsideRun (r : SetupRec) : s.ctl.mode ≠ .run r := fun run => by simp [State.setup?, run, Mode.setup?] at taken
    have noCourse : s.course.active = none := by
      by_contra running
      obtain ⟨r, run⟩ := position.2.2.2.2.2.2.2 (Option.isSome_iff_ne_none.2 running)
      exact outsideRun r run
    exact faultsWithinLimit_reads.frame (exec_encoderEdge_frame_of_noCourse outsideRun noCourse next) (by decide) before

theorem faultsWithinLimit_exec {c : Instr}
    (touched : ∃ p ∈ [Part.headFire, .headFaults, .headDisabled, .mode], p ∈ footprint c)
    (next : exec c s = .next t) : t.FaultsWithinLimit := by
  cases c with
  | encoderEdge a b => exact faultsWithinLimit_encoderEdge position before next
  | referenceMark =>
    obtain rfl | ⟨e, r, _, taken, rfl⟩ := exec_referenceMark_cases next
    · exact before
    · have same := exec_same next
      exact faultsWithinLimit_of_setup taken (s.loadReference_setup? r) (same .headFaults (by simp [footprint, arrivalParts]))
        (same .headDisabled (by simp [footprint, arrivalParts])) before
  | headConfirm => exact faultsWithinLimit_headConfirm position before next
  | fireDeadline => exact faultsWithinLimit_fireDeadline head before next
  | setup q b =>
    obtain ⟨r, cleared, good, rfl, rfl⟩ | elsewhere := exec_setup_cases next
    · obtain ⟨_, faults, _⟩ := before.1 (congrArg Mode.setup? cleared)
      exact faultsWithinLimit_of_zero rfl faults (record_inRange ((firstBad_eq_none_iff _ _).1 good)).faultLimit
    · exact faultsWithinLimit_reads.frame elsewhere (by decide) before
  | reset q =>
    obtain ⟨_, _, rfl⟩ | elsewhere := exec_reset_cases next
    · exact faultsWithinLimit_courseReset position before
    · exact faultsWithinLimit_reads.frame elsewhere (by decide) before
  | hardReset x a b r =>
    obtain rfl := Host.Outcome.next.inj next
    exact ⟨fun _ => ⟨rfl, rfl, rfl⟩, fun r taken => by cases taken⟩
  | _ => exact nomatch touches_of_mem touched

end Command

theorem positionAgrees_reads : Reads State.PositionAgrees
    [.posC, .posTracker, .posIndices, .posRacking, .posFrontier, .active, .mode, .straps] := by
  constructor
  intro s t same before
  have c : t.pos.c = s.pos.c := same .posC (by decide)
  have tracker : t.pos.tracker = s.pos.tracker := same .posTracker (by decide)
  have idx : t.pos.idx = s.pos.idx := same .posIndices (by decide)
  have racking : t.pos.racking = s.pos.racking := same .posRacking (by decide)
  have frontier : t.pos.frontier = s.pos.frontier := same .posFrontier (by decide)
  have active : t.course.active = s.course.active := same .active (by decide)
  have mode : t.ctl.mode = s.ctl.mode := same .mode (by decide)
  obtain ⟨_, bedBack, owner⟩ : t.ctl.station = s.ctl.station ∧ t.ctl.bedBack = s.ctl.bedBack ∧
    t.ctl.owner = s.ctl.owner := same .straps (by decide)
  have now : t.indicesNow = s.indicesNow := by
    simp only [State.indicesNow, setup?_of_mode mode, c, tracker, racking, bedBack, owner]
  unfold State.PositionAgrees
  rwa [c, tracker, idx, racking, frontier, active, mode, setup?_of_mode mode, now]

theorem step_faultsWithinLimit {s t : State} (position : s.PositionAgrees) (head : s.HeadAgrees)
    (before : s.FaultsWithinLimit) (next : step s = .next t) : t.FaultsWithinLimit := by
  obtain rfl | ⟨c, u, taken, next⟩ := step_cases next
  · exact before
  · have before := faultsWithinLimit_reads.same taken (by decide) before
    by_cases touched : ∃ p ∈ [Part.headFire, .headFaults, .headDisabled, .mode], p ∈ footprint c
    · exact faultsWithinLimit_exec (positionAgrees_reads.same taken (by decide) position)
        (headAgrees_reads.same taken (by decide) head) before touched next
    · exact faultsWithinLimit_reads.same (exec_same next) (fun p hp foot => touched ⟨p, hp, foot⟩) before

/-- Settles O9, each list, table and count by the commands that touch it. -/
theorem stepKeepsTheListsAndCountsInBounds : Obligations.StepKeepsTheListsAndCountsInBounds :=
  ⟨fun _ _ before next => listOrdered_reads.step exec_listOrdered (by decide) next before,
    fun _ _ => step_withinLimits,
    fun _ _ before next => runBelowLimit_reads.step exec_runBelowLimit (by decide) next before,
    fun _ _ => step_faultsWithinLimit⟩

end Sys2Proof.Machine
end

section
/-! PROOF. The course counters account for every counting arrival (R65, R83, R85), and the float counter stays below
its limit (R74). -/

namespace Sys2Proof.Machine

/-! ### What the course counters account for -/

/-- The needles the course counters show a result for, with those that are untracked (R78, R83). -/
def Tally.shown (t : Tally) : Nat := t.nones + t.loops + t.tucks + t.tops + t.failed + t.untracked

theorem Tally.add_shown (t : Tally) (x : NeedleResult) : (t.add x).shown = t.shown + 1 := by
  cases x <;> simp only [Tally.add, Tally.shown] <;> omega

theorem Tally.add_decided (t : Tally) (x : NeedleResult) : (t.add x).decided = t.decided := by
  cases x <;> rfl

/-- The counters account for the counting arrivals, beside the counting entries that wait and `k` needles more. -/
def State.Owes (k : Nat) (s : State) : Prop :=
  s.course.tally.decided = s.course.tally.shown + s.dec.outcomes.countP (·.counting) + k

theorem accounted_iff (s : State) : s.Accounted ↔ (s.course.active = none → s.dec.outcomes = []) ∧ s.Owes 0 := Iff.rfl

theorem owes_reads (k : Nat) : Reads (State.Owes k) [.outcomes, .tally] := by
  constructor
  intro s t same before
  have outcomes : t.dec.outcomes = s.dec.outcomes := same .outcomes (by decide)
  have tally : t.course.tally = s.course.tally := same .tally (by decide)
  unfold State.Owes
  rwa [outcomes, tally]

theorem tallied_tally (s : State) (e : Entry) (o : NeedleOutcome) :
    (s.tallied e o).course.tally.decided = s.course.tally.decided ∧
    (s.tallied e o).course.tally.shown = s.course.tally.shown + if e.counting then 1 else 0 := by
  unfold State.tallied
  split
  · rw [State.score_tally]
    exact ⟨Tally.add_decided _ _, Tally.add_shown _ _⟩
  · exact ⟨rfl, rfl⟩

theorem tallied_account_frame (s : State) (e : Entry) (o : NeedleOutcome) :
    Frame [.openRun, .courseFlags, .transmitList, .counts] (s.tallied e o) (s.account e o) := by
  have told : Frame [.openRun, .courseFlags, .transmitList, .counts] (s.tallied e o) ((s.tallied e o).told e o) :=
    .ite (announce_frame _ _ _) (.refl _ _)
  rw [State.account_eq]
  exact .ite (told.then (closeRun_frame _)) told

/-- Leaving entries pass from the list to the counters (R80, R83). -/
theorem owes_leaveFrom {k : Nat} (l : List Entry) (s : State)
    (owed : s.course.tally.decided = s.course.tally.shown + l.countP (·.counting) + k) : (leaveFrom l s).Owes k := by
  induction l generalizing s with
  | nil => exact owed
  | cons e es ih =>
    unfold leaveFrom
    cases e.outcome with
    | none => exact owed
    | some o =>
      refine ih _ ?_
      have tally : (s.account e o).course.tally = (s.tallied e o).course.tally :=
        (tallied_account_frame s e o).get .tally
      obtain ⟨decided, shown⟩ := tallied_tally s e o
      rw [tally, decided, shown, owed, List.countP_cons]
      omega

theorem owes_leave {k : Nat} (s : State) (owed : s.Owes k) : s.leave.Owes k := owes_leaveFrom _ s owed

theorem countP_resolveEntry (n : Nat) (o : NeedleOutcome) (l : List Entry) :
    (l.map (resolveEntry n o)).countP (·.counting) = l.countP (·.counting) := by
  rw [List.countP_map]
  refine List.countP_congr fun e _ => ?_
  simp only [Function.comp, resolveEntry]
  split <;> rfl

theorem countP_endEntry (l : List Entry) : (l.map endEntry).countP (·.counting) = l.countP (·.counting) := by
  rw [List.countP_map]
  refine List.countP_congr fun e _ => ?_
  simp only [Function.comp, endEntry]
  split <;> rfl

theorem countP_breakTail (l : List Entry) : (breakTail l).countP (·.counting) = l.countP (·.counting) := by
  unfold breakTail
  split
  next e last =>
    obtain ⟨before, rfl⟩ := List.getLast?_eq_some_iff.1 last
    simp [List.countP_append, List.countP_cons]
  · rfl

theorem owes_resolve {k : Nat} (s : State) (n : Nat) (o : NeedleOutcome) (owed : s.Owes k) : (s.resolve n o).Owes k := by
  simp only [State.Owes, State.resolve, State.setDec_dec, State.setDec_course, countP_resolveEntry]
  exact owed

/-- A request that waits or answers leaves the account alone. -/
theorem owes_request {k : Nat} (s : State) (n : Nat) (h : Height) (travel : Dir) (owed : s.Owes k) :
    (s.request n h travel).Owes k := by
  have waits (q : Request) : (s.replaceWaiting q).Owes k := by
    have replaced := (owes_reads k).frame (setHead_waiting_frame s (some q)) (by decide) owed
    unfold State.replaceWaiting
    split
    · exact owes_resolve _ _ _ replaced
    · exact replaced
  unfold State.request
  split_ifs
  · exact owes_resolve _ _ _ owed
  · exact owes_resolve _ _ _ owed
  · exact owes_resolve _ _ _ owed
  · exact waits _
  · exact owes_resolve _ _ _ owed
  · exact (owes_reads k).frame (startFire_frame s n h) (by decide) owed

/-! ### The arrival of a needle -/

/-- A counting arrival is decided, and owed to the account until it is entered (R66, R83). -/
theorem owes_countArrival {k : Nat} (s : State) (a : Active) (owed : s.Owes k) : (s.countArrival a).Owes (k + 1) := by
  have decided : (s.setTally { s.course.tally with decided := s.course.tally.decided + 1 }).Owes (k + 1) :=
    congrArg (· + 1) owed
  unfold State.countArrival
  dsimp only
  split
  · exact (owes_reads _).frame (chooseRow_frame _ a) (by decide) decided
  · exact decided

/-- A needle that does not count is entered beside the account. -/
theorem owes_enter_uncounted {k : Nat} (s : State) (n : Nat) (x : Action) (g : Bool) (owed : s.Owes k) :
    (s.enter n false x g).Owes k := by
  unfold State.enter
  split
  · simpa [State.Owes, List.countP_append] using owed
  · exact owed

/-- A counting needle is entered in the list, or untracked, and so accounted for (R77, R78). -/
theorem owes_enter_counted {k : Nat} (s : State) (n : Nat) (x : Action) (g : Bool) (owed : s.Owes (k + 1)) :
    (s.enter n true x g).Owes k := by
  unfold State.enter
  split
  · simp only [State.Owes, State.setDec_dec, State.setDec_course, List.countP_append, List.countP_singleton,
      if_true] at owed ⊢
    omega
  · refine (owes_reads k).frame (bump_frame _ _) (by decide) ?_
    simp only [State.Owes, State.setTally, State.setDec_dec, State.setDec_course, State.setCourse_course,
      State.setCourse_dec, countP_breakTail, Tally.shown] at owed ⊢
    omega

theorem owes_handOver_uncounted (s : State) (a : Active) (n : Nat) (x : Action) (g : Bool) (owed : s.Owes 0) :
    (s.handOver a n false x g).Owes 0 := owes_leave _ (owes_request _ _ _ _ (owes_enter_uncounted s n x g owed))

theorem owes_handOver_counted (s : State) (a : Active) (n : Nat) (x : Action) (g : Bool) (owed : s.Owes 1) :
    (s.handOver a n true x g).Owes 0 := owes_leave _ (owes_request _ _ _ _ (owes_enter_counted s n x g owed))

theorem owes_arrive (s : State) (n : Nat) (owed : s.Owes 0) : (s.arrive n).Owes 0 := by
  have marked (t : State) (a : Active) (x : Action) (h : t.Owes 1) : (t.markOwn a n x).Owes 1 :=
    (owes_reads 1).frame (markOwn_frame t a n x) (by decide) h
  unfold State.arrive
  split
  · exact owed
  next a _ =>
    split
    · have counted := owes_countArrival s a owed
      unfold State.arriveCounting
      dsimp only
      split
      · exact owes_handOver_counted _ _ _ _ _ (marked _ _ _ counted)
      · exact owes_handOver_counted _ _ _ _ _ (marked _ _ _
          ((owes_reads 1).frame (setDec_float_frame _ _) (by decide) counted))
    · exact owes_handOver_uncounted _ _ _ _ _ owed

/-! ### The account over a step -/

theorem accounted_reads : Reads State.Accounted [.active, .outcomes, .tally] := by
  constructor
  intro s t same before
  have active : t.course.active = s.course.active := same .active (by decide)
  have outcomes : t.dec.outcomes = s.dec.outcomes := same .outcomes (by decide)
  have tally : t.course.tally = s.course.tally := same .tally (by decide)
  unfold State.Accounted
  rwa [active, outcomes, tally]

theorem accounted_answer (s : State) (n : Nat) (o : NeedleOutcome) (before : s.Accounted) :
    (s.answer n o).Accounted := by
  obtain ⟨unused, owed⟩ := (accounted_iff s).1 before
  refine ⟨fun noCourse => ?_, owes_leave _ (owes_resolve s n o owed)⟩
  have list : (s.answer n o).dec.outcomes = (s.resolve n o).dec.outcomes.dropWhile fun e => e.outcome.isSome :=
    leaveFrom_outcomes _ _
  have empty : s.dec.outcomes = [] := unused (((answer_frame s n o).get .active).symm.trans noCourse)
  rw [list, State.resolve, State.setDec_dec, empty]
  rfl

theorem accounted_arrive (s : State) (n : Nat) (before : s.Accounted) : (s.arrive n).Accounted := by
  obtain ⟨unused, owed⟩ := (accounted_iff s).1 before
  refine ⟨fun noCourse => ?_, owes_arrive s n owed⟩
  have noCourse : s.course.active = none := ((arrive_frame s n).get .active).symm.trans noCourse
  have same : s.arrive n = s := by simp only [State.arrive, noCourse]
  rw [same]
  exact unused noCourse

/-- Every entry leaves a list that is closed (R85). -/
theorem closeOutcomes_outcomes (s : State) : s.closeOutcomes.dec.outcomes = [] := by
  have closed : s.closeOutcomes.dec.outcomes =
      (s.setDec { s.dec with outcomes := s.dec.outcomes.map endEntry }).leave.dec.outcomes :=
    (closeRun_frame _).get .outcomes
  have left : (s.setDec { s.dec with outcomes := s.dec.outcomes.map endEntry }).leave.dec.outcomes =
      (s.dec.outcomes.map endEntry).dropWhile fun e => e.outcome.isSome := leaveFrom_outcomes _ _
  rw [closed, left, List.dropWhile_eq_nil_iff]
  intro e member
  obtain ⟨d, _, rfl⟩ := List.mem_map.1 member
  cases outcome : d.outcome <;> simp [endEntry, outcome]

theorem owes_closeOutcomes (s : State) (owed : s.Owes 0) : s.closeOutcomes.Owes 0 := by
  have ended : (s.setDec { s.dec with outcomes := s.dec.outcomes.map endEntry }).Owes 0 := by
    simp only [State.Owes, State.setDec_dec, State.setDec_course, countP_endEntry]
    exact owed
  exact (owes_reads 0).frame ((closeRun_frame _).then (setDec_float_frame _ 0)
    (n := [.float, .openRun, .courseFlags, .transmitList, .counts])) (by decide) (owes_leave _ ended)

theorem closeOutcomes_endCourse_frame (s : State) (a : Active) :
    Frame (([.headWaiting, .headFire, .transmitList, .counts, .history, .rowSlots, .rowPinned, .pages, .active,
      .posFrontier] : List Part) ++ judgeParts) s.closeOutcomes (s.endCourse a) := by
  have settled : Frame (([.headWaiting, .headFire] : List Part) ++ judgeParts) s.closeOutcomes s.settledEnd :=
    (detachFire_frame s.closeOutcomes).then (settleCarrier_frame _)
  have verdict := (settled.then (reportedEnd_frame s a) (n := ([.headWaiting, .headFire, .transmitList, .counts] : List Part) ++
    judgeParts)).then (verdictEnd_frame s a) (n := ([.headWaiting, .headFire, .transmitList, .counts, .history] : List Part) ++
    judgeParts)
  have released := verdict.then (releasedEnd_frame s a) (n := ([.headWaiting, .headFire, .transmitList, .counts,
    .history, .rowSlots, .rowPinned, .pages] : List Part) ++ judgeParts)
  rw [State.endCourse_eq]
  exact released.then (retired_frame _)

theorem accounted_endCourse (s : State) (a : Active) (before : s.Accounted) : (s.endCourse a).Accounted := by
  obtain ⟨_, owed⟩ := (accounted_iff s).1 before
  have rest := closeOutcomes_endCourse_frame s a
  refine (accounted_iff _).2 ⟨fun _ => ?_, (owes_reads 0).frame rest (by decide) (owes_closeOutcomes s owed)⟩
  exact (show _ = _ from rest.get .outcomes).trans (closeOutcomes_outcomes s)

theorem activate_tally (s : State) (dir : Dir) : (s.activate dir).course.tally = ⟨0, 0, 0, 0, 0, 0, 0⟩ := by
  rw [State.activate_eq]
  exact (begun_activate_frame s dir).get .tally

theorem accounted_startCourse (s : State) (dir : Dir) (noCourse : s.course.active = none) (before : s.Accounted) :
    (s.startCourse dir).Accounted := by
  have empty : (s.activate dir).dec.outcomes = [] :=
    (show _ = _ from (activate_frame s dir).get .outcomes).trans (before.1 noCourse)
  have begun : (s.activate dir).Accounted := by
    rw [State.Accounted, empty, activate_tally]
    exact ⟨fun _ => rfl, rfl⟩
  exact accounted_reads.frame (startCourse_after_activate_frame s dir) (by decide) begun

/-- The account outlives a change of the ACTIVE context that begins and ends no course. -/
theorem accounted_of_running {s t : State} (running : t.running = s.running)
    (outcomes : t.dec.outcomes = s.dec.outcomes) (tally : t.course.tally = s.course.tally) (before : s.Accounted) :
    t.Accounted := by
  have none_iff : t.course.active = none ↔ s.course.active = none := by
    rw [← Option.isNone_iff_eq_none, ← Option.isNone_iff_eq_none, ← Option.not_isSome, ← Option.not_isSome]
    exact iff_of_eq (congrArg (fun b => (!b) = true) running)
  rw [State.Accounted, outcomes, tally, none_iff]
  exact before

theorem exec_accounted {c : Instr} {s t : State} (touched : ∃ p ∈ [Part.active, .outcomes, .tally], p ∈ footprint c)
    (next : exec c s = .next t) (before : s.Accounted) : t.Accounted := by
  have ended : s.endMark.Accounted := accounted_reads.frame (endMark_frame s) (by decide) before
  cases c with
  | encoderEdge a b =>
    exact accounted_reads.encoderEdge accounted_arrive (accounted_reads.directionChange accounted_arrive
      (fun s a _ => accounted_endCourse s a) accounted_startCourse (by decide)) (by decide) next before
  | referenceMark =>
    exact accounted_reads.referenceMark accounted_arrive (fun s => accounted_reads.frame (intoRun_frame s))
      (by decide) next before
  | headConfirm => exact accounted_reads.headConfirm accounted_answer (by decide) next before
  | fireDeadline => exact accounted_reads.fireDeadline accounted_answer (by decide) next before
  | span body =>
    obtain ⟨_, rfl⟩ | elsewhere := exec_span_cases next
    · exact accounted_of_running (takeSpan_running _ body) ((takeSpan_frame _ body).get .outcomes)
        ((takeSpan_frame _ body).get .tally) ended
    · exact accounted_reads.frame elsewhere (by decide) before
  | close body =>
    obtain ⟨_, rfl⟩ | elsewhere := exec_close_cases next
    · exact accounted_of_running (takeClose_running _ body) ((takeClose_frame _ body).get .outcomes)
        ((takeClose_frame _ body).get .tally) ended
    · exact accounted_reads.frame elsewhere (by decide) before
  | reset q =>
    obtain ⟨_, _, rfl⟩ | elsewhere := exec_reset_cases next
    · exact accounted_reads.frame (clearedBlocks_courseReset_frame s.endMark) (by decide) ⟨fun _ => rfl, rfl⟩
    · exact accounted_reads.frame elsewhere (by decide) before
  | hardReset x a b r =>
    obtain rfl := Host.Outcome.next.inj next
    exact ⟨fun _ => rfl, rfl⟩
  | _ => exact nomatch touches_of_mem touched

/-! ### The float counter -/

theorem floatBelowLimit_reads : Reads State.FloatBelowLimit [.float, .mode] := by
  constructor
  intro s t same before
  have float : t.dec.float = s.dec.float := same .float (by decide)
  have taken : t.setup? = s.setup? := setup?_of_mode (same .mode (by decide))
  unfold State.FloatBelowLimit
  rwa [float, taken]

theorem floatBelowLimit_of_zero {s : State} (float : s.dec.float = 0) : s.FloatBelowLimit :=
  ⟨fun _ => float, fun _ _ => .inl float⟩

/-- The float tie leaves the counter below the limit that it counts to (R74). -/
theorem tie_float (limit float : Nat) (x : Action) (below : float = 0 ∨ float < limit) :
    (tie limit float x).2 = 0 ∨ (tie limit float x).2 < limit := by
  unfold tie
  cases x with
  | miss =>
    dsimp only
    split
    · exact .inl rfl
    next short => exact .inr (Nat.lt_of_not_le short)
  | tuck | knit => exact .inl rfl
  | xfer | recv => exact below

theorem floatBelowLimit_chooseAction (s : State) (a : Active) (n : Nat) (before : s.FloatBelowLimit) :
    (s.setDec { s.dec with float := (s.chooseAction a n).2 }).FloatBelowLimit := by
  obtain ⟨cleared, below⟩ := before
  unfold State.chooseAction
  split
  next ties =>
    refine ⟨fun noSetup => ?_, fun r taken => ?_⟩
    · have noSetup : s.setup? = none := noSetup
      simp [State.ties, State.param_of_cleared noSetup] at ties
    · have taken : s.setup? = some r := taken
      rw [State.param_of_setup taken]
      exact tie_float _ _ _ (below r taken)
  · exact ⟨cleared, below⟩

theorem floatBelowLimit_arrive (s : State) (n : Nat) : s.FloatBelowLimit → (s.arrive n).FloatBelowLimit :=
  floatBelowLimit_reads.arrive floatBelowLimit_chooseAction
    (fun s a n x => floatBelowLimit_reads.frame (markOwn_frame s a n x))
    (fun s n k x g => floatBelowLimit_reads.frame (enter_frame s n k x g))
    (fun s n h d => floatBelowLimit_reads.frame (request_frame s n h d))
    (fun s => floatBelowLimit_reads.frame (leave_frame s)) (by decide) s n

theorem contextBegun_float (s : State) (a : Active) : (s.contextBegun a).dec.float = 0 :=
  (listenPage_frame _ a).get .float

theorem exec_floatBelowLimit {c : Instr} {s t : State} (touched : ∃ p ∈ [Part.float, .mode], p ∈ footprint c)
    (next : exec c s = .next t) (before : s.FloatBelowLimit) : t.FloatBelowLimit := by
  cases c with
  | encoderEdge a b =>
    refine floatBelowLimit_reads.encoderEdge floatBelowLimit_arrive (floatBelowLimit_reads.directionChange
      floatBelowLimit_arrive (fun s a _ => ?_) (fun s dir _ => ?_) (by decide)) (by decide) next before
    · exact fun _ => floatBelowLimit_reads.frame (closeOutcomes_endCourse_frame s a) (by decide)
        (floatBelowLimit_of_zero rfl)
    · exact floatBelowLimit_reads.startCourse (fun s a => floatBelowLimit_reads.frame (loadBacking_frame s a))
        (fun s a _ => floatBelowLimit_of_zero (contextBegun_float s a))
        (fun s => floatBelowLimit_reads.frame (prime_frame s)) (by decide) s dir
  | referenceMark =>
    refine floatBelowLimit_reads.referenceMark floatBelowLimit_arrive (fun s before => ?_) (by decide) next before
    unfold State.FloatBelowLimit
    rwa [State.intoRun_setup?]
  | setup q b =>
    obtain ⟨r, cleared, _, _, rfl⟩ | elsewhere := exec_setup_cases next
    · exact floatBelowLimit_of_zero (before.1 (congrArg Mode.setup? cleared))
    · exact floatBelowLimit_reads.frame elsewhere (by decide) before
  | reset q =>
    obtain ⟨_, _, rfl⟩ | elsewhere := exec_reset_cases next
    · exact floatBelowLimit_of_zero ((clearedBlocks_courseReset_frame s.endMark).get .float)
    · exact floatBelowLimit_reads.frame elsewhere (by decide) before
  | hardReset x a b r =>
    obtain rfl := Host.Outcome.next.inj next
    exact floatBelowLimit_of_zero rfl
  | _ => exact nomatch touches_of_mem touched

/-- Settles O8: the account by entries that enter and leave the list, the float counter by the tie. -/
theorem stepKeepsTheDecisionUnit : Obligations.StepKeepsTheDecisionUnit := fun _ _ next =>
  ⟨accounted_reads.step exec_accounted (by decide) next,
    floatBelowLimit_reads.step exec_floatBelowLimit (by decide) next⟩

end Sys2Proof.Machine
end

section
/-! PROOF. C, the tracker's marks, the indices, the racking and the frontier agree over every step (R3, R4, R5, R10,
R14, R19, R49, R178). -/

namespace Sys2Proof.Machine

/-! ### The tracker's marks -/

/-- The marks stand around the count that an edge brings (R4, R5). -/
theorem trackerAfter_around {c : Int} {t : Tracker} (before : t.around c) (d : Int) (_one : d.natAbs ≤ 1) :
    (trackerAfter (c + d) t).around (c + d) := by
  cases t with
  | unknown low high =>
    simp only [Tracker.around] at before
    simp only [trackerAfter]
    split_ifs <;> simp only [Tracker.around] <;> omega
  | right e =>
    simp only [Tracker.around] at before
    simp only [trackerAfter]
    split_ifs <;> simp only [Tracker.around] <;> omega
  | left e =>
    simp only [Tracker.around] at before
    simp only [trackerAfter]
    split_ifs <;> simp only [Tracker.around] <;> omega

theorem quadrature_natAbs {x y : Bool × Bool} {d : Int} (legal : quadrature x y = some d) : d.natAbs ≤ 1 := by
  obtain ⟨a, b⟩ := x
  obtain ⟨a', b'⟩ := y
  cases a <;> cases b <;> cases a' <;> cases b' <;> simp_all [quadrature] <;> subst legal <;> decide

/-! ### The parts of the agreement -/

/-- The agreement but for the indices. -/
structure State.PositionStands (s : State) : Prop where
  range : ∀ r, s.setup? = some r → r.inRange
  inside : counted s.pos.c
  marks : s.pos.tracker.around s.pos.c
  racking : s.pos.racking = (s.course.active.map (·.order)).elim 0 (·.racking)
  frontier : s.pos.frontier.isSome = s.running
  run : s.running = true → ∃ r, s.ctl.mode = .run r

theorem positionAgrees_iff (s : State) : s.PositionAgrees ↔ s.PositionStands ∧ s.pos.idx = s.indicesNow := by
  constructor
  · rintro ⟨range, low, high, marks, idx, racking, frontier, run⟩
    refine ⟨⟨range, ⟨low, high⟩, marks, ?_, frontier, run⟩, idx⟩
    revert racking
    cases s.course.active <;> exact id
  · rintro ⟨⟨range, ⟨low, high⟩, marks, racking, frontier, run⟩, idx⟩
    refine ⟨range, low, high, marks, idx, ?_, frontier, run⟩
    revert racking
    cases s.course.active <;> exact id

theorem indicesNow_eq {s t : State} (c : t.pos.c = s.pos.c) (tracker : t.pos.tracker = s.pos.tracker)
    (racking : t.pos.racking = s.pos.racking) (mode : t.ctl.mode = s.ctl.mode)
    (straps : t.ctl.station = s.ctl.station ∧ t.ctl.bedBack = s.ctl.bedBack ∧ t.ctl.owner = s.ctl.owner) :
    t.indicesNow = s.indicesNow := by
  obtain ⟨_, bedBack, owner⟩ := straps
  simp only [State.indicesNow, setup?_of_mode mode, c, tracker, racking, bedBack, owner]

/-- What the indices are formed from. -/
def indexParts : List Part := [.posC, .posTracker, .posRacking, .mode, .straps]

theorem SameExcept.indicesNow {l : List Part} {s t : State} (h : SameExcept l s t)
    (beside : ∀ p ∈ indexParts, p ∉ l := by decide) : t.indicesNow = s.indicesNow :=
  indicesNow_eq (h .posC (beside _ (by decide))) (h .posTracker (beside _ (by decide)))
    (h .posRacking (beside _ (by decide))) (h .mode (beside _ (by decide))) (h .straps (beside _ (by decide)))

theorem positionStands_reads : Reads State.PositionStands
    [.posC, .posTracker, .posRacking, .posFrontier, .active, .mode] := by
  constructor
  intro s t same before
  have c : t.pos.c = s.pos.c := same .posC (by decide)
  have tracker : t.pos.tracker = s.pos.tracker := same .posTracker (by decide)
  have racking : t.pos.racking = s.pos.racking := same .posRacking (by decide)
  have frontier : t.pos.frontier = s.pos.frontier := same .posFrontier (by decide)
  have active : t.course.active = s.course.active := same .active (by decide)
  have mode : t.ctl.mode = s.ctl.mode := same .mode (by decide)
  obtain ⟨range, inside, marks, racked, led, run⟩ := before
  exact ⟨setup?_of_mode mode ▸ range, c ▸ inside, by rwa [c, tracker], by rwa [racking, active],
    by rwa [frontier, State.running, active], by rwa [State.running, active, mode]⟩

/-- A forming of the indices brings the position unit in step with itself (R10). -/
theorem positionAgrees_form {s : State} (stands : s.PositionStands) : s.form.PositionAgrees := by
  have formed := form_frame s
  have idx : s.form.pos.idx = s.indicesNow := by
    unfold State.form
    dsimp only
    split
    · split
      · rfl
      · exact (pinMoved_frame _ _ _).get .posIndices
    · rfl
  exact (positionAgrees_iff _).2 ⟨positionStands_reads.frame formed (by decide) stands,
    idx.trans (formed.same.indicesNow).symm⟩

/-- Arrivals move the frontier of a running course and keep the rest (R17). -/
theorem positionAgrees_arrivals {s : State} (before : s.PositionAgrees) : s.arrivals.PositionAgrees := by
  unfold State.arrivals
  split
  next a f i running _ _ =>
    split
    · refine positionAgrees_reads.frame (arriveAll_frame _ _) (by decide) ?_
      obtain ⟨range, low, high, marks, idx, racking, _, run⟩ := before
      exact ⟨range, low, high, marks, idx, racking, by simp [running], run⟩
    · exact before
  · exact before

/-! ### The commands that touch the position unit -/

/-- The row choice not made, and the racking of the course taken by the position unit (R14, R50). -/
def State.racked (s : State) (a : Active) : State :=
  (s.setCourse { s.course with choice := none, cleanRead := false }).applyRacking a.order.racking

theorem racked_contextBegun_frame (s : State) (a : Active) :
    Frame [.float, .openRun, .pages] (s.racked a) (s.contextBegun a) :=
  ((setDec_float_frame (s.racked a) 0).then (setClaim_run_frame _ none) (n := [.float, .openRun])).then
    (listenPage_frame _ a)

theorem State.racked_idx (s : State) (a : Active) : (s.racked a).pos.idx = (s.racked a).indicesNow := rfl

/-- A course starts with its own racking, the indices formed with it (R14). -/
theorem startCourse_position (s : State) (dir : Dir) :
    (s.startCourse dir).pos.racking = (s.course.nextActive dir).order.racking ∧
    (s.startCourse dir).pos.idx = (s.startCourse dir).indicesNow := by
  have rest := ((racked_contextBegun_frame ((s.activate dir).loadBacking (s.course.nextActive dir))
    (s.course.nextActive dir)).then (formCarrier_frame _ (s.course.nextActive dir))
    (n := ([.float, .openRun, .pages, .standbyTake] : List Part) ++ judgeParts)).then (prime_frame _)
    (n := ([.float, .openRun, .pages, .standbyTake, .orderQueue, .standby, .transmitList, .counts] : List Part) ++ judgeParts)
  exact ⟨rest.get .posRacking, (show _ = _ from rest.get .posIndices).trans rest.same.indicesNow.symm⟩

theorem State.openFrontier_of_idx {s : State} {i : Indices} (idx : s.pos.idx = some i) :
    s.openFrontier = if 0 ≤ i.d ∧ i.d < (s.width : Int) then
      (s.setPos { s.pos with frontier := some i.d }).arrive i.d.toNat
      else s.setPos { s.pos with frontier := some i.d } := by
  simp only [State.openFrontier, idx]

theorem positionAgrees_openFrontier {s : State} {a : Active} {r : SetupRec} (running : s.course.active = some a)
    (run : s.ctl.mode = .run r) (range : r.inRange) (inside : counted s.pos.c)
    (marks : s.pos.tracker.around s.pos.c) (racking : s.pos.racking = a.order.racking)
    (idx : s.pos.idx = s.indicesNow) : s.openFrontier.PositionAgrees := by
  have taken : s.setup? = some r := congrArg Mode.setup? run
  obtain ⟨i, now⟩ : ∃ i, s.indicesNow = some i := ⟨_, by simp only [State.indicesNow, taken, Option.map_some]; rfl⟩
  have opened : (s.setPos { s.pos with frontier := some i.d }).PositionAgrees := by
    refine ⟨fun r' taken' => ?_, inside.1, inside.2, marks, idx, ?_, ?_, fun _ => ⟨r, run⟩⟩
    · exact Option.some.inj (taken.symm.trans taken') ▸ range
    · simp [running, racking]
    · simp [running]
  rw [State.openFrontier_of_idx (idx.trans now)]
  split
  · exact positionAgrees_reads.frame (arrive_frame _ _) (by decide) opened
  · exact opened

theorem positionAgrees_directionChange {s : State} (dir : Dir) (before : s.PositionAgrees) :
    (s.directionChange dir).PositionAgrees := by
  by_cases run : ∃ r, s.ctl.mode = .run r
  · obtain ⟨r, run⟩ := run
    obtain ⟨range, low, high, marks, _, _, _, _⟩ := before
    obtain ⟨racking, idx⟩ := startCourse_position s.ended dir
    have started := (ended_frame s).then (startCourse_frame s.ended dir) (n := endParts ++ startParts)
    have c : (s.ended.startCourse dir).pos.c = s.pos.c := started.get .posC
    have tracker : (s.ended.startCourse dir).pos.tracker = s.pos.tracker := started.get .posTracker
    rw [State.directionChange_of_run run]
    exact positionAgrees_openFrontier (State.startCourse_active _ dir) ((started.get .mode).trans run)
      (range r (congrArg Mode.setup? run)) (c ▸ ⟨low, high⟩) (c ▸ tracker ▸ marks) racking idx
  · rw [State.directionChange_of_notRun fun r h => run ⟨r, h⟩]
    exact before

theorem positionStands_counting {s : State} {d : Int} (inside : counted (s.pos.c + d)) (one : d.natAbs ≤ 1)
    (before : s.PositionStands) : (s.counting d).PositionStands := by
  obtain ⟨range, _, marks, racking, frontier, run⟩ := before
  exact ⟨range, inside, trackerAfter_around marks d one, racking, frontier, run⟩

theorem positionAgrees_encoderEdge {a b : Bool} {s t : State} (next : exec (.encoderEdge a b) s = .next t)
    (before : s.PositionAgrees) : t.PositionAgrees := by
  have phased : (s.takePhase a b).PositionAgrees := positionAgrees_reads.frame (takePhase_frame s a b) (by decide) before
  have formed {d : Int} (legal : quadrature (s.pos.phaseA, s.pos.phaseB) (a, b) = some d)
      (inside : counted (s.pos.c + d)) : ((s.takePhase a b).counting d).form.PositionAgrees :=
    positionAgrees_form (positionStands_counting inside (quadrature_natAbs legal) ((positionAgrees_iff _).1 phased).1)
  obtain rfl | rfl | rfl | ⟨d, legal, inside, _, rfl⟩ | ⟨d, dir, legal, inside, _, rfl⟩ := exec_encoderEdge_cases next
  · exact phased
  · exact positionAgrees_reads.frame ((setSticky_frame _ _).then (bump_frame _ _) (n := [.sticky, .counts]))
      (by decide) phased
  · exact positionAgrees_reads.frame (setSticky_frame _ _) (by decide) phased
  · exact positionAgrees_arrivals (formed legal inside)
  · exact positionAgrees_directionChange dir (formed legal inside)

theorem positionAgrees_referenceMark {s t : State} (next : exec .referenceMark s = .next t)
    (before : s.PositionAgrees) : t.PositionAgrees := by
  obtain rfl | ⟨e, r, _, taken, rfl⟩ := exec_referenceMark_cases next
  · exact before
  · obtain ⟨range, _, _, racking, frontier, run⟩ := ((positionAgrees_iff _).1
      (positionAgrees_reads.frame (checkSlip_frame s r) (by decide) before)).1
    have taken : (s.checkSlip r).setup? = some r := (setup?_of_mode ((checkSlip_frame s r).get .mode)).trans taken
    obtain ⟨_, _, _, _, krefLow, krefHigh, _⟩ := range r taken
    have stands : ((s.checkSlip r).atKref r).intoRun.PositionStands := by
      refine ⟨fun r' taken' => range r' ((State.intoRun_setup? _).symm.trans taken'), ⟨krefLow, krefHigh⟩,
        ⟨le_rfl, Int.sub_lt_self _ (by decide)⟩, racking, frontier, fun running => ?_⟩
      obtain ⟨r', mode⟩ := run running
      exact ⟨r', congrArg Mode.referenced mode⟩
    exact positionAgrees_arrivals (positionAgrees_form stands)

theorem positionAgrees_acceptSetup {s : State} {r : SetupRec} (cleared : s.ctl.mode = .setup) (range : r.inRange)
    (before : s.PositionAgrees) : (s.acceptSetup r).PositionAgrees := by
  obtain ⟨_, low, high, marks, _, racking, frontier, run⟩ := before
  refine ⟨fun r' taken => Option.some.inj taken ▸ range, low, high, marks, rfl, racking, frontier, fun running => ?_⟩
  obtain ⟨r', mode⟩ := run running
  rw [cleared] at mode
  cases mode

theorem positionAgrees_courseReset {s : State} (before : s.PositionAgrees) : s.courseReset.PositionAgrees := by
  have rest := clearedBlocks_courseReset_frame s
  obtain ⟨range, low, high, marks, _, _, _, _⟩ := before
  have c : s.courseReset.pos.c = s.pos.c := rest.get .posC
  have tracker : s.courseReset.pos.tracker = s.pos.tracker := rest.get .posTracker
  have mode : s.courseReset.ctl.mode = s.ctl.mode := rest.get .mode
  have active : s.courseReset.course.active = none := rest.get .active
  refine ⟨setup?_of_mode mode ▸ range, c ▸ low, c ▸ high, c ▸ tracker ▸ marks, rfl, ?_, ?_, ?_⟩
  · rw [active]
    rfl
  · rw [active]
    rfl
  · simp [active]

/-- The agreement outlives a change of the ACTIVE context that leaves its order. -/
theorem positionAgrees_mayReady {s t : State} (h : MayReady s t) (before : s.PositionAgrees) : t.PositionAgrees := by
  have running := h.running
  have orders := h.orders
  obtain ⟨stands, idx⟩ := (positionAgrees_iff s).1 before
  obtain ⟨range, inside, marks, racking, frontier, run⟩ := stands
  obtain ⟨u, frame, last⟩ := h
  have rest : Frame [.rowSlots, .counts, .sticky, .standby, .active] s t := by
    obtain rfl | ⟨row, rfl⟩ := last
    · exact frame.mono
    · exact frame.then (rowReady_frame u row)
  have c : t.pos.c = s.pos.c := rest.get .posC
  have tracker : t.pos.tracker = s.pos.tracker := rest.get .posTracker
  have mode : t.ctl.mode = s.ctl.mode := rest.get .mode
  refine (positionAgrees_iff t).2 ⟨⟨setup?_of_mode mode ▸ range, c ▸ inside, c ▸ tracker ▸ marks, ?_, ?_, ?_⟩, ?_⟩
  · rw [show _ = _ from rest.get .posRacking, orders]
    exact racking
  · rw [show _ = _ from rest.get .posFrontier, running]
    exact frontier
  · rwa [running, mode]
  · rw [show _ = _ from rest.get .posIndices, idx]
    exact rest.same.indicesNow.symm

theorem positionAgrees_hardReset (s : State) (x : BitVec 6) (a b rail : Bool) :
    (s.hardReset x a b rail).PositionAgrees := by
  simp [State.PositionAgrees, State.hardReset, State.afterReset, State.setup?, Mode.setup?, State.indicesNow,
    Tracker.around]

theorem exec_positionAgrees {c : Instr} {s t : State}
    (touched : ∃ p ∈ [Part.posC, .posTracker, .posIndices, .posRacking, .posFrontier, .active, .mode, .straps],
      p ∈ footprint c) (next : exec c s = .next t) (before : s.PositionAgrees) : t.PositionAgrees := by
  have ended : s.endMark.PositionAgrees := positionAgrees_reads.frame (endMark_frame s) (by decide) before
  cases c with
  | encoderEdge a b => exact positionAgrees_encoderEdge next before
  | referenceMark => exact positionAgrees_referenceMark next before
  | span body =>
    obtain ⟨_, rfl⟩ | elsewhere := exec_span_cases next
    · exact positionAgrees_mayReady (mayReady_takeSpan _ body) ended
    · exact positionAgrees_reads.frame elsewhere (by decide) before
  | close body =>
    obtain ⟨_, rfl⟩ | elsewhere := exec_close_cases next
    · exact positionAgrees_mayReady (mayReady_takeClose _ body) ended
    · exact positionAgrees_reads.frame elsewhere (by decide) before
  | setup q b =>
    obtain ⟨r, cleared, good, rfl, rfl⟩ | elsewhere := exec_setup_cases next
    · exact positionAgrees_acceptSetup cleared (record_inRange ((firstBad_eq_none_iff _ _).1 good)) ended
    · exact positionAgrees_reads.frame elsewhere (by decide) before
  | reset q =>
    obtain ⟨_, _, rfl⟩ | elsewhere := exec_reset_cases next
    · exact positionAgrees_courseReset ended
    · exact positionAgrees_reads.frame elsewhere (by decide) before
  | hardReset x a b r =>
    obtain rfl := Host.Outcome.next.inj next
    exact positionAgrees_hardReset s x a b r
  | _ => exact nomatch touches_of_mem touched

/-- Settles O7, by the commands that move C, form the indices, or begin and end a course. -/
theorem stepKeepsThePositionUnitInStep : Obligations.StepKeepsThePositionUnitInStep := fun _ _ before next =>
  positionAgrees_reads.step exec_positionAgrees (by decide) next before

end Sys2Proof.Machine
end

section
/-! SUPPORT. The judgements of a course carrier that waits, case by case (R138, R139), and what a record of the
carrier table becomes (R128). -/

namespace Sys2Proof.Machine

/-! ### Where the pin index stands -/

theorem shortOf_iff (dir : Dir) (p x : Int) : shortOf dir p x = true ↔ ShortOf dir p x := by
  cases dir <;> simp [shortOf, ShortOf]

theorem passedBy_iff (dir : Dir) (p x : Int) : passedBy dir p x = true ↔ Beyond dir p x := by
  cases dir <;> simp [passedBy, Beyond, ShortOf]

/-- An index stands short of a needle, at it or beyond it, and in one of these places only. -/
theorem shortOf_or (dir : Dir) (p x : Int) : ShortOf dir p x ∨ p = x ∨ Beyond dir p x := by
  cases dir <;> simp only [ShortOf, Beyond] <;> omega

theorem ShortOf.not_beyond {dir : Dir} {p x : Int} (short : ShortOf dir p x) : ¬ Beyond dir p x := by
  cases dir <;> simp only [ShortOf, Beyond] at * <;> omega

theorem ShortOf.ne {dir : Dir} {p x : Int} (short : ShortOf dir p x) : p ≠ x := by
  cases dir <;> simp only [ShortOf] at * <;> omega

theorem Beyond.ne {dir : Dir} {p x : Int} (beyond : Beyond dir p x) : p ≠ x := by
  cases dir <;> simp only [Beyond, ShortOf] at * <;> omega

/-! ### The carrier that is judged -/

theorem State.judged_eq_some {s : State} {cc : CourseCarrier} (judged : s.judged = some cc) :
    s.carr.course = some cc ∧ cc.source = .own ∧ cc.state = .waiting := by
  unfold State.judged at judged
  split at judged
  · split at judged
    next course waits =>
      obtain rfl := Option.some.inj judged
      exact ⟨course, waits⟩
    · cases judged
  · cases judged

section Judged
variable {s : State} {cc : CourseCarrier} (course : s.carr.course = some cc) (own : cc.source = .own)
  (waiting : cc.state = .waiting)
include course own waiting

theorem State.judged_of_waiting : s.judged = some cc := by
  simp [State.judged, course, own, waiting]

end Judged

theorem State.judged_of_settled {s : State} (settled : ∀ cc, s.carr.course = some cc → cc.state ≠ .waiting) :
    s.judged = none := by
  cases judged : s.judged with
  | none => rfl
  | some cc =>
    obtain ⟨course, _, waiting⟩ := State.judged_eq_some judged
    exact absurd waiting (settled cc course)

theorem State.judged_of_noCarrier {s : State} (noCarrier : s.carr.course = none) : s.judged = none :=
  State.judged_of_settled fun cc course => by simp [noCarrier] at course

/-! ### The judgements -/

section Miss
variable (s : State) (cc : CourseCarrier)

theorem State.miss_course (flag : Bool) : (s.miss cc flag).carr.course = some { cc with state := .missed } := by
  cases flag
  · rfl
  · exact (setCourseFlag_frame (s.setCourseCarrier { cc with state := .missed }) .carrierMissed).get .courseCarrier

theorem State.miss_pin (flag : Bool) : (s.miss cc flag).carr.pin = s.carr.pin := (miss_frame s cc flag).get .pin

theorem State.miss_flagged : Flagged s (s.miss cc) .carrierMissed .carrierMissed :=
  flagged_setCourseFlag (s.setCourseCarrier { cc with state := .missed }) rfl

theorem State.miss_quiet : s.miss cc false = s.setCourseCarrier { cc with state := .missed } := rfl

end Miss

section Reached
variable {s : State} {cc : CourseCarrier} (flag : Bool)

theorem State.reached_of_unknown (unknown : (s.carrier cc.carrier).place = .unknown) :
    s.reached cc flag = s.miss cc flag := by
  simp only [State.reached, unknown]

theorem State.reached_of_elsewhere {q : StationNo} (held : (s.carrier cc.carrier).place = .held q)
    (elsewhere : q ≠ s.ctl.station) : s.reached cc flag = s.miss cc flag := by
  simp [State.reached, held, elsewhere]

variable {y : Int} (parked : (s.carrier cc.carrier).place = .parked y)
include parked

theorem State.reached_of_queued (queued : cc.take = some .queued) : s.reached cc flag = s.miss cc flag := by
  simp [State.reached, parked, queued]

/-- A carrier with its TAKE made is engaged by a released pin, and held back by a busy one (R137, R139). -/
theorem State.reached_of_made (made : cc.take = some .made) (owner : s.ctl.owner = true) :
    s.reached cc flag = if s.carr.pin = .released then
      s.setPin (.engaging cc.carrier cc.pass s.fireTime true) else s := by
  simp [State.reached, parked, made, owner]

end Reached

/-- A carrier that is reached is MISSED, or held back, or its engagement starts at a released pin. -/
theorem State.reached_cases (s : State) (cc : CourseCarrier) (flag : Bool) :
    s.reached cc flag = s.miss cc flag ∨ s.reached cc flag = s ∨
    (s.carr.pin = .released ∧ s.ctl.owner = true ∧
      s.reached cc flag = s.setPin (.engaging cc.carrier cc.pass s.fireTime true)) := by
  unfold State.reached
  split
  · exact .inl rfl
  · split_ifs
    · exact .inr (.inl rfl)
    · exact .inl rfl
  · split_ifs with queued free
    · exact .inl rfl
    · exact .inr (.inr ⟨free.2.1, free.2.2, rfl⟩)
    · exact .inr (.inl rfl)

section JudgeAt
variable {s : State} {i : Indices} (idx : s.pos.idx = some i) (cc : CourseCarrier) {x : Int} (flag : Bool)
include idx

theorem State.judgeAt_of_short (short : ShortOf cc.travel i.p x) : s.judgeAt cc x flag = s := by
  have notBeyond : ¬ passedBy cc.travel i.p x = true := mt (passedBy_iff _ _ _).1 short.not_beyond
  simp only [State.judgeAt, idx, if_neg short.ne, if_neg notBeyond]

theorem State.judgeAt_of_at (here : i.p = x) : s.judgeAt cc x flag = s.reached cc flag := by
  simp only [State.judgeAt, idx, if_pos here]

theorem State.judgeAt_of_beyond (beyond : Beyond cc.travel i.p x) : s.judgeAt cc x flag = s.miss cc flag := by
  simp only [State.judgeAt, idx, if_neg beyond.ne, if_pos ((passedBy_iff _ _ _).2 beyond)]

end JudgeAt

theorem State.judgeAt_cases (s : State) (cc : CourseCarrier) (x : Int) (flag : Bool) :
    s.judgeAt cc x flag = s.reached cc flag ∨ s.judgeAt cc x flag = s.miss cc flag ∨ s.judgeAt cc x flag = s := by
  unfold State.judgeAt
  split
  · exact .inr (.inr rfl)
  · split_ifs
    · exact .inl rfl
    · exact .inr (.inl rfl)
    · exact .inr (.inr rfl)

/-! ### The records of the table -/

theorem State.record_of_same {s : State} {c : Fin 16} {y : Place} (same : (s.carrier c).place = y)
    (res : Option Reservation) (flag : Bool) : s.record c y res flag = s.setCarrier c ⟨y, res⟩ := if_pos same

theorem State.record_of_changed {s : State} {c : Fin 16} {y : Place} (changed : (s.carrier c).place ≠ y)
    (res : Option Reservation) (flag : Bool) :
    s.record c y res flag = (s.setCarrier c ⟨y, res⟩).judgePlace c y flag := if_neg changed

theorem setCarrier_record_frame (s : State) (c : Fin 16) (y : Place) (res : Option Reservation) (flag : Bool) :
    Frame judgeParts (s.setCarrier c ⟨y, res⟩) (s.record c y res flag) := by
  unfold State.record
  exact .ite (.refl _ _) (judgePlace_frame _ _ _ _)

theorem State.carrier_record (s : State) (c d : Fin 16) (y : Place) (res : Option Reservation) (flag : Bool) :
    (s.record c y res flag).carrier d = if c = d then ⟨y, res⟩ else s.carrier d :=
  ((setCarrier_record_frame s c y res flag).carrier_eq d).trans (s.carrier_setCarrier c d _)

end Sys2Proof.Machine
end

section
/-! PROOF. Every park needle lies on the rail (R128), and the pin belongs to the course's own carrier (R136, R137,
R139, R145). -/

namespace Sys2Proof.Machine

/-! ### The park needles -/

theorem State.width_of_mode {s t : State} (mode : t.ctl.mode = s.ctl.mode) : t.width = s.width := by
  simp only [State.width, State.param, setup?_of_mode mode]

theorem parksOnRail_reads : Reads State.ParksOnRail [.carrierTable, .mode] := by
  constructor
  intro s t same before
  have table : t.carr.table = s.carr.table := same .carrierTable (by decide)
  unfold State.ParksOnRail State.carrier
  rwa [table, State.width_of_mode (same .mode (by decide))]

/-- The place lies on the rail of a bed of width `w` (R128). -/
def Place.onRail (w : Nat) (y : Place) : Prop := ∀ x, y = .parked x → -64 ≤ x ∧ x ≤ (w : Int) + 63

theorem clampPark_onRail (w : Nat) (x : Int) : -64 ≤ clampPark w x ∧ clampPark w x ≤ (w : Int) + 63 := by
  simp only [clampPark, Config.parkBeyond]
  omega

theorem placeAt_onRail (s : State) (x : Option Int) : (s.placeAt x).onRail s.width := by
  intro y parked
  cases x with
  | none => cases parked
  | some n =>
    obtain rfl := Place.parked.inj parked
    exact clampPark_onRail _ _

theorem parksOnRail_setCarrier {s : State} {c : Fin 16} {r : CarrierRec} (rail : r.place.onRail s.width)
    (before : s.ParksOnRail) : (s.setCarrier c r).ParksOnRail := by
  obtain ⟨wide, parks⟩ := before
  refine ⟨wide, fun d x parked => ?_⟩
  rw [State.carrier_setCarrier] at parked
  split at parked
  · exact rail x parked
  · exact parks d x parked

theorem parksOnRail_record {s : State} {c : Fin 16} {y : Place} (rail : y.onRail s.width)
    (res : Option Reservation) (flag : Bool) (before : s.ParksOnRail) : (s.record c y res flag).ParksOnRail :=
  parksOnRail_reads.frame (setCarrier_record_frame s c y res flag) (by decide)
    (parksOnRail_setCarrier (r := ⟨y, res⟩) rail before)

/-- A record with a new reservation keeps its place. -/
theorem parksOnRail_reserved {s : State} (c : Fin 16) (v : Option Reservation) (before : s.ParksOnRail) :
    (s.setCarrier c { s.carrier c with reserved := v }).ParksOnRail :=
  parksOnRail_setCarrier (fun x parked => before.2 c x parked) before

theorem held_onRail (q : StationNo) (w : Nat) : (Place.held q).onRail w := fun _ parked => by cases parked

theorem unknown_onRail (w : Nat) : Place.unknown.onRail w := fun _ parked => by cases parked

theorem parksOnRail_loseCarrier {s : State} (c : Fin 16) (pass : Word16) (before : s.ParksOnRail) :
    (s.loseCarrier c pass).ParksOnRail :=
  parksOnRail_reads.frame ((judgeFree_frame _).then (offer_frame _ _)
    (n := [.pin, .courseCarrier, .transmitList, .counts])) (by decide)
    (parksOnRail_record (unknown_onRail _) _ _ before)

theorem parksOnRail_pinConfirm {s t : State} (next : exec .pinConfirm s = .next t) (before : s.ParksOnRail) :
    t.ParksOnRail := by
  have pinned (x : Pin) : (s.setPin x).ParksOnRail := parksOnRail_reads.frame (setPin_frame s x) (by decide) before
  simp only [exec, execPinConfirm] at next
  split at next
  · exact Host.Outcome.next.inj next ▸ parksOnRail_reads.frame (bump_frame s _) (by decide) before
  · exact Host.Outcome.next.inj next ▸ parksOnRail_reads.frame (bump_frame s _) (by decide) before
  next c pass _ ofCourse _ =>
    obtain rfl := Host.Outcome.next.inj next
    have held := parksOnRail_reads.frame (offer_frame _ (.pick pass c)) (by decide)
      (parksOnRail_record (c := c) (held_onRail s.ctl.station _) (s.carrier c).reserved true (pinned (.engaged c pass)))
    split
    · exact parksOnRail_reads.frame (confirmHeld_frame _) (by decide) held
    · exact parksOnRail_reads.frame (startRelease_frame _) (by decide) held
  next c pass _ silent _ =>
    split at next
    · exact Host.Outcome.next.inj next ▸ parksOnRail_reads.frame (judgeFree_frame _) (by decide) (pinned _)
    · obtain rfl := Host.Outcome.next.inj next
      refine parksOnRail_reads.frame ((judgeFree_frame _).then (offer_frame _ _)
        (n := [.pin, .courseCarrier, .transmitList, .counts])) (by decide)
        (parksOnRail_record (fun x parked => ?_) _ _ (pinned _))
      exact Place.parked.inj parked ▸ clampPark_onRail _ _

theorem parksOnRail_engagementDeadline {s t : State} (next : exec .engagementDeadline s = .next t)
    (before : s.ParksOnRail) : t.ParksOnRail := by
  simp only [exec, execEngagementDeadline] at next
  split at next
  · obtain rfl := Host.Outcome.next.inj next
    refine parksOnRail_loseCarrier _ _ (parksOnRail_reads.frame (pinFault_frame _) (by decide) ?_)
    split
    · exact parksOnRail_reads.frame (faultCarrier_frame s) (by decide) before
    · exact before
  · exact Host.Outcome.next.inj next ▸ before

theorem parksOnRail_releaseDeadline {s t : State} (next : exec .releaseDeadline s = .next t)
    (before : s.ParksOnRail) : t.ParksOnRail := by
  have faulted := parksOnRail_reads.frame (pinFault_frame s) (by decide) before
  simp only [exec, execReleaseDeadline] at next
  split at next
  · split at next
    · exact Host.Outcome.next.inj next ▸ parksOnRail_reads.frame (judgeFree_frame _) (by decide) faulted
    · exact Host.Outcome.next.inj next ▸ parksOnRail_loseCarrier _ _ faulted
  · exact Host.Outcome.next.inj next ▸ before

theorem parksOnRail_takePlace {s : State} (c : Fin 16) (x : Word16) (before : s.ParksOnRail) :
    (s.takePlace c x).ParksOnRail := by
  unfold State.takePlace
  split
  · exact parksOnRail_reads.frame (setSticky_frame s _) (by decide) before
  · exact parksOnRail_record (placeAt_onRail s _) _ _ before

theorem parksOnRail_reserve {s : State} (q : StationNo) (pass : Word16) (c : Fin 16) (before : s.ParksOnRail) :
    (s.reserve q pass c).ParksOnRail := by
  unfold State.reserve
  dsimp only
  split
  · exact parksOnRail_reserved c _ before
  · split_ifs
    · exact before
    · exact parksOnRail_reads.frame (bump_frame s _) (by decide) before
    · exact parksOnRail_reserved c _ before

theorem parksOnRail_takeTake {s : State} (q : StationNo) (pass : Word16) (c : Fin 16) (before : s.ParksOnRail) :
    (s.takeTake q pass c).ParksOnRail := by
  unfold State.takeTake
  split
  · exact parksOnRail_reserve _ _ _ (parksOnRail_reads.frame (((setLine_list_frame s _).then (bump_frame _ _)
      (n := [.transmitList, .counts])).then (loseTake_frame _ c pass)
      (n := [.transmitList, .counts, .standbyTake, .courseCarrier, .courseFlags, .causes, .latch])) (by decide) before)
  · exact parksOnRail_reserve _ _ _ before

theorem parksOnRail_takePick {s : State} (q : StationNo) (pass : Word16) (c : Fin 16) (before : s.ParksOnRail) :
    (s.takePick q pass c).ParksOnRail := by
  refine parksOnRail_reads.frame (partnerPick_frame _ q pass c) (by decide) ?_
  split
  · exact parksOnRail_reads.frame (bump_frame s _) (by decide) before
  · exact parksOnRail_record (held_onRail q _) _ _ before

theorem parksOnRail_takePark {s : State} (pass : Word16) (c : Fin 16) (x : Word16) (before : s.ParksOnRail) :
    (s.takePark pass c x).ParksOnRail := by
  unfold State.takePark
  split
  · exact parksOnRail_reads.frame (bump_frame s _) (by decide) before
  · exact parksOnRail_record (placeAt_onRail s _) _ _ before

theorem parksOnRail_takeSent {s : State} (c : Fin 16) (pass : Word16) (before : s.ParksOnRail) :
    (s.takeSent c pass).ParksOnRail :=
  parksOnRail_reads.frame (changeTakes_frame _ _ _ _) (by decide) (parksOnRail_reserved c _ before)

/-- At the acceptance of SETUP every park needle is brought below W+64 (R128). -/
theorem parksOnRail_acceptSetup {s : State} {r : SetupRec} (wide : 16 ≤ r.width) (before : s.ParksOnRail) :
    (s.acceptSetup r).ParksOnRail := by
  have width : (s.acceptSetup r).width = r.width := State.width_of_setup rfl
  refine ⟨width ▸ wide, fun c x parked => ?_⟩
  rw [State.carrier_acceptSetup] at parked
  rw [width]
  cases place : (s.carrier c).place with
  | parked n =>
    rw [clampRecord_of_parked place] at parked
    have low := (before.2 c n place).1
    obtain rfl := Place.parked.inj parked
    omega
  | unknown | held =>
    rw [clampRecord_of_notParked (by simp [place]), place] at parked
    cases parked

/-- An empty table has no park needle. -/
theorem parksOnRail_of_unknown {s : State} (wide : 16 ≤ s.width)
    (table : s.carr.table = Vector.replicate 16 ⟨.unknown, none⟩) : s.ParksOnRail := by
  refine ⟨wide, fun c x parked => ?_⟩
  simp [State.carrier, table] at parked

theorem exec_parksOnRail {c : Instr} {s t : State} (touched : ∃ p ∈ [Part.carrierTable, .mode], p ∈ footprint c)
    (next : exec c s = .next t) (before : s.ParksOnRail) : t.ParksOnRail := by
  have ended : s.endMark.ParksOnRail := parksOnRail_reads.frame (endMark_frame s) (by decide) before
  cases c with
  | referenceMark =>
    obtain rfl | ⟨_, r, _, _, rfl⟩ := exec_referenceMark_cases next
    · exact before
    · have kept : (s.loadReference r).width = s.width := by
        simp only [State.width, State.param, State.loadReference_setup?]
      have table : (s.loadReference r).carr.table = s.carr.table :=
        exec_same next .carrierTable (by decide)
      unfold State.ParksOnRail State.carrier
      rwa [kept, table]
  | pinConfirm => exact parksOnRail_pinConfirm next before
  | engagementDeadline => exact parksOnRail_engagementDeadline next before
  | releaseDeadline => exact parksOnRail_releaseDeadline next before
  | place x y =>
    obtain ⟨c, rfl⟩ | elsewhere := exec_place_cases next
    · exact parksOnRail_takePlace c y ended
    · exact parksOnRail_reads.frame elsewhere (by decide) before
  | take q pass x =>
    obtain ⟨c, rfl⟩ | elsewhere := exec_take_cases next
    · exact parksOnRail_takeTake q pass c ended
    · exact parksOnRail_reads.frame elsewhere (by decide) before
  | pick q pass x =>
    obtain ⟨c, rfl⟩ | elsewhere := exec_pick_cases next
    · exact parksOnRail_takePick q pass c ended
    · exact parksOnRail_reads.frame elsewhere (by decide) before
  | park q pass x y =>
    obtain ⟨c, rfl⟩ | elsewhere := exec_park_cases next
    · exact parksOnRail_takePark pass c y ended
    · exact parksOnRail_reads.frame elsewhere (by decide) before
  | setup q b =>
    obtain ⟨r, _, good, rfl, rfl⟩ | elsewhere := exec_setup_cases next
    · obtain ⟨wide, _⟩ := record_inRange ((firstBad_eq_none_iff _ _).1 good)
      exact parksOnRail_acceptSetup wide ended
    · exact parksOnRail_reads.frame elsewhere (by decide) before
  | reset q =>
    obtain ⟨_, _, rfl⟩ | elsewhere := exec_reset_cases next
    · refine parksOnRail_of_unknown ?_ ((resetPin_frame _).get .carrierTable)
      rw [State.width_of_mode (s := s) ((clearedBlocks_courseReset_frame s.endMark).get .mode)]
      exact before.1
    · exact parksOnRail_reads.frame elsewhere (by decide) before
  | noticeSent =>
    obtain rfl | ⟨n, _, rfl⟩ := exec_noticeSent_cases next
    · exact before
    · have quiet := parksOnRail_reads.frame ((drop_frame s n).then (endMark_frame _)
        (n := ([.transmitList, .sending, .guardOff] : List Part) ++ noticeParts)) (by decide) before
      unfold State.toldSent
      split
      · exact parksOnRail_takeSent _ _ quiet
      · exact quiet
  | hardReset x a b r =>
    obtain rfl := Host.Outcome.next.inj next
    exact parksOnRail_of_unknown (show 16 ≤ 4096 by decide) rfl
  | _ => exact nomatch touches_of_mem touched

end Sys2Proof.Machine
end

section
/-! PROOF. The pin belongs to the course's own carrier, and a course carrier to a running course (R136, R137, R139,
R145). -/

namespace Sys2Proof.Machine

/-! ### What agrees -/

/-- The course carrier whose engagement may be in flight (R137, R139). -/
def CourseCarrier.engages (cc : CourseCarrier) (c : Fin 16) (pass : Word16) : Prop :=
  cc.carrier = c ∧ cc.pass = pass ∧ cc.source = .own ∧ (cc.state = .waiting ∨ cc.state = .missed)

/-- The agreement of the pin, by what each of its three parts says. -/
structure State.PinStands (s : State) : Prop where
  without : s.course.active = none → s.carr.course = none
  noOwner : s.ctl.owner = false → s.carr.pin = .released
  engaging : ∀ c p d, s.carr.pin = .engaging c p d true → ∃ cc, s.carr.course = some cc ∧ cc.engages c p

theorem pinAgrees_iff (s : State) : s.PinAgrees ↔ s.PinStands :=
  ⟨fun ⟨without, noOwner, engaging⟩ => ⟨without, noOwner, engaging⟩,
    fun ⟨without, noOwner, engaging⟩ => ⟨without, noOwner, engaging⟩⟩

theorem pinAgrees_reads : Reads State.PinAgrees [.active, .straps, .pin, .courseCarrier] := by
  constructor
  intro s t same before
  have active : t.course.active = s.course.active := same .active (by decide)
  have pin : t.carr.pin = s.carr.pin := same .pin (by decide)
  have course : t.carr.course = s.carr.course := same .courseCarrier (by decide)
  obtain ⟨_, _, owner⟩ : t.ctl.station = s.ctl.station ∧ t.ctl.bedBack = s.ctl.bedBack ∧
    t.ctl.owner = s.ctl.owner := same .straps (by decide)
  unfold State.PinAgrees
  rwa [active, pin, course, owner]

theorem not_engagingForCourse {p : Pin} (idle : p.engagingForCourse = false) (c : Fin 16) (pass : Word16) (d : Nat) :
    p ≠ .engaging c pass d true := by
  rintro rfl
  cases idle

/-- The course carrier changed, with the pin's own engagement, if any, still its own. -/
theorem pinAgrees_setCourseCarrier {s : State} {cc dd : CourseCarrier} (course : s.carr.course = some cc)
    (stays : ∀ c p, s.carr.pin.engagingForCourse = true → cc.engages c p → dd.engages c p) (before : s.PinAgrees) :
    (s.setCourseCarrier dd).PinAgrees := by
  obtain ⟨without, owner, engaging⟩ := (pinAgrees_iff s).1 before
  refine ⟨fun noCourse => ?_, owner, fun c p d pin => ?_⟩
  · have none := without noCourse
    simp [course] at none
  · have pin : s.carr.pin = .engaging c p d true := pin
    obtain ⟨cc', course', engages⟩ := engaging c p d pin
    obtain rfl := Option.some.inj (course.symm.trans course')
    exact ⟨dd, rfl, stays c p (by rw [pin]; rfl) engages⟩

/-- The pin changed to one that is not engaging for the course, and not out of rest. -/
theorem pinAgrees_setPin {s : State} {p : Pin} (busy : s.carr.pin ≠ .released ∨ p = .released)
    (idle : p.engagingForCourse = false) (before : s.PinAgrees) : (s.setPin p).PinAgrees := by
  obtain ⟨without, owner, _⟩ := (pinAgrees_iff s).1 before
  refine ⟨without, fun noOwner => ?_, fun c q d pin => absurd pin (not_engagingForCourse idle c q d)⟩
  exact busy.elim (fun moved => absurd (owner noOwner) moved) id

theorem engages_missed {cc : CourseCarrier} {c : Fin 16} {p : Word16} (engages : cc.engages c p) :
    ({ cc with state := .missed } : CourseCarrier).engages c p := by
  obtain ⟨carrier, pass, own, _⟩ := engages
  exact ⟨carrier, pass, own, .inr rfl⟩

section Judged
variable {s : State} {cc : CourseCarrier} (course : s.carr.course = some cc) (flag : Bool) (before : s.PinAgrees)
include course before

theorem pinAgrees_miss : (s.miss cc flag).PinAgrees := by
  have missed := pinAgrees_setCourseCarrier course (fun _ _ _ => engages_missed) before
  cases flag
  · exact missed
  · exact pinAgrees_reads.frame (setCourseFlag_frame _ _) (by decide) missed

theorem pinAgrees_reached (own : cc.source = .own) (waiting : cc.state = .waiting) :
    (s.reached cc flag).PinAgrees := by
  obtain missed | held | ⟨_, owner, engaging⟩ := s.reached_cases cc flag
  · exact missed ▸ pinAgrees_miss course flag before
  · rwa [held]
  · obtain ⟨without, _, _⟩ := (pinAgrees_iff s).1 before
    rw [engaging]
    refine ⟨without, fun noOwner => ?_, fun c p d pin => ?_⟩
    · have noOwner : s.ctl.owner = false := noOwner
      simp [owner] at noOwner
    · obtain ⟨rfl, rfl, _⟩ := Pin.engaging.inj pin
      exact ⟨cc, course, rfl, rfl, own, .inl waiting⟩

theorem pinAgrees_judgeAt (own : cc.source = .own) (waiting : cc.state = .waiting) (x : Int) :
    (s.judgeAt cc x flag).PinAgrees := by
  obtain reached | missed | still := s.judgeAt_cases cc x flag
  · exact reached ▸ pinAgrees_reached course flag before own waiting
  · exact missed ▸ pinAgrees_miss course flag before
  · rwa [still]

end Judged

theorem pinAgrees_judgeMove {s : State} (old new : Int) (before : s.PinAgrees) : (s.judgeMove old new).PinAgrees := by
  unfold State.judgeMove
  split
  · exact before
  next cc judged =>
    obtain ⟨course, own, waiting⟩ := State.judged_eq_some judged
    split
    · exact before
    · split_ifs
      · exact pinAgrees_reached course true before own waiting
      · exact pinAgrees_miss course true before
      · exact before

theorem pinAgrees_judgeFree {s : State} (before : s.PinAgrees) : s.judgeFree.PinAgrees := by
  unfold State.judgeFree
  split
  next cc judged =>
    obtain ⟨course, own, waiting⟩ := State.judged_eq_some judged
    split
    · exact pinAgrees_judgeAt course false before own waiting _
    · exact before
  · exact before

theorem pinAgrees_expect {s : State} (c : Fin 16) (x : Int) (before : s.PinAgrees) : (s.expect c x).PinAgrees := by
  unfold State.expect
  split
  next cc course =>
    split
    · exact pinAgrees_setCourseCarrier course (fun _ _ _ engages => engages) before
    · exact before
  · exact before

theorem pinAgrees_judgePlace {s : State} (c : Fin 16) (y : Place) (flag : Bool) (before : s.PinAgrees) :
    (s.judgePlace c y flag).PinAgrees := by
  unfold State.judgePlace
  split
  next x =>
    have expected := pinAgrees_expect c x before
    dsimp only
    split
    next cc judged =>
      obtain ⟨course, own, waiting⟩ := State.judged_eq_some judged
      split
      · exact pinAgrees_judgeAt course flag expected own waiting x
      · exact expected
    · exact expected
  · split
    next cc judged =>
      obtain ⟨course, _, _⟩ := State.judged_eq_some judged
      split
      · exact pinAgrees_miss course flag before
      · exact before
    · exact before
  · exact before

theorem pinAgrees_record {s : State} (c : Fin 16) (y : Place) (res : Option Reservation) (flag : Bool)
    (before : s.PinAgrees) : (s.record c y res flag).PinAgrees := by
  have recorded := pinAgrees_reads.frame (setCarrier_frame s c ⟨y, res⟩) (by decide) before
  unfold State.record
  dsimp only
  split
  · exact recorded
  · exact pinAgrees_judgePlace c y flag recorded

theorem pinAgrees_startRelease {s : State} (before : s.PinAgrees) : s.startRelease.PinAgrees := by
  unfold State.startRelease
  split
  next pin => exact pinAgrees_setPin (.inl (by simp [pin])) rfl before
  · exact before

theorem pinAgrees_judgeDrop {s : State} (before : s.PinAgrees) : s.judgeDrop.PinAgrees := by
  unfold State.judgeDrop
  split
  · split
    · exact pinAgrees_startRelease before
    · exact before
  · exact before

theorem pinAgrees_form {s : State} (before : s.PinAgrees) : s.form.PinAgrees := by
  have formed := pinAgrees_reads.frame (reindex_frame s) (by decide) before
  unfold State.form
  dsimp only
  split
  · split
    · exact formed
    · exact pinAgrees_judgeDrop (pinAgrees_judgeMove _ _ formed)
  · exact formed

/-! ### Takes -/

theorem pinAgrees_changeTakes {s : State} (c : Fin 16) (pass : Word16) (f : TakeState → TakeState)
    (before : s.PinAgrees) : (s.changeTakes c pass f).PinAgrees := by
  obtain ⟨without, owner, engaging⟩ := (pinAgrees_iff s).1 before
  refine ⟨fun noCourse => ?_, owner, fun k p d pin => ?_⟩
  · have none : s.carr.course = none := without noCourse
    simp [State.changeTakes, none]
  · obtain ⟨cc, course, engages⟩ := engaging k p d pin
    refine ⟨_, congrArg (Option.map _) course, ?_⟩
    dsimp only
    split
    · exact engages
    · exact engages

theorem pinAgrees_judgeTake {s : State} (before : s.PinAgrees) : s.judgeTake.PinAgrees := by
  unfold State.judgeTake
  split
  next cc judged =>
    obtain ⟨course, _, _⟩ := State.judged_eq_some judged
    split
    next denied =>
      refine pinAgrees_reads.frame (setCourseFlag_frame _ _) (by decide)
        (pinAgrees_setCourseCarrier course (fun _ _ engaging => ?_) before)
      simp [denied.2] at engaging
    · exact before
  · exact before

theorem pinAgrees_loseTake {s : State} (c : Fin 16) (pass : Word16) (before : s.PinAgrees) :
    (s.loseTake c pass).PinAgrees := pinAgrees_judgeTake (pinAgrees_changeTakes c pass _ before)

theorem pinAgrees_takeTake {s : State} (q : StationNo) (pass : Word16) (c : Fin 16) (before : s.PinAgrees) :
    (s.takeTake q pass c).PinAgrees := by
  unfold State.takeTake
  split
  · have withdrawn := pinAgrees_reads.frame ((setLine_list_frame s (s.line.list.filter fun n => n != .take pass c)).then
      (bump_frame _ .takesWithdrawn) (n := [.transmitList, .counts])) (by decide) before
    exact pinAgrees_reads.frame (reserve_frame _ q pass c) (by decide) (pinAgrees_loseTake c pass withdrawn)
  · exact pinAgrees_reads.frame (reserve_frame s q pass c) (by decide) before

theorem pinAgrees_toldSent {s : State} (n : Notice) (before : s.PinAgrees) : (s.toldSent n).PinAgrees := by
  unfold State.toldSent
  split
  · exact pinAgrees_changeTakes _ _ _ (pinAgrees_reads.frame (setCarrier_frame s _ _) (by decide) before)
  · exact before

theorem pinAgrees_toldLost {s : State} (n : Notice) (before : s.PinAgrees) : (s.toldLost n).PinAgrees := by
  unfold State.toldLost
  split
  · exact pinAgrees_loseTake _ _ before
  · exact before

/-! ### The peers' notices -/

theorem pinAgrees_partnerPick {s : State} (q : StationNo) (pass : Word16) (c : Fin 16) (before : s.PinAgrees) :
    (s.partnerPick q pass c).PinAgrees := by
  unfold State.partnerPick
  split
  next cc course =>
    split
    next awaited =>
      refine pinAgrees_setCourseCarrier course (fun _ _ _ engages => ?_) before
      obtain ⟨_, _, own, _⟩ := engages
      simp [awaited.1] at own
    · exact before
  · exact before

theorem pinAgrees_takePick {s : State} (q : StationNo) (pass : Word16) (c : Fin 16) (before : s.PinAgrees) :
    (s.takePick q pass c).PinAgrees := by
  refine pinAgrees_partnerPick q pass c ?_
  split
  · exact pinAgrees_reads.frame (bump_frame s _) (by decide) before
  · exact pinAgrees_record _ _ _ _ before

theorem pinAgrees_takePark {s : State} (pass : Word16) (c : Fin 16) (x : Word16) (before : s.PinAgrees) :
    (s.takePark pass c x).PinAgrees := by
  unfold State.takePark
  split
  · exact pinAgrees_reads.frame (bump_frame s _) (by decide) before
  · exact pinAgrees_record _ _ _ _ before

theorem pinAgrees_takePlace {s : State} (c : Fin 16) (x : Word16) (before : s.PinAgrees) :
    (s.takePlace c x).PinAgrees := by
  unfold State.takePlace
  split
  · exact pinAgrees_reads.frame (setSticky_frame s _) (by decide) before
  · exact pinAgrees_record _ _ _ _ before

/-! ### The ends of a pin operation -/

/-- A released pin agrees with any course carrier of a running course. -/
theorem pinAgrees_of_released {s : State} (released : s.carr.pin = .released)
    (without : s.course.active = none → s.carr.course = none) : s.PinAgrees :=
  ⟨without, fun _ => released, fun c p d pin => by simp [released] at pin⟩

theorem pinAgrees_pinFault {s : State} (without : s.course.active = none → s.carr.course = none) :
    s.pinFault.PinAgrees := by
  have rest := (setSticky_frame (s.setPin .released) .pinFault).then (bump_frame _ .pinDeadlines)
    (n := [.sticky, .counts])
  exact pinAgrees_reads.frame rest (by decide) (pinAgrees_of_released (s := s.setPin .released) rfl without)

theorem pinAgrees_loseCarrier {s : State} (c : Fin 16) (pass : Word16) (before : s.PinAgrees) :
    (s.loseCarrier c pass).PinAgrees :=
  pinAgrees_reads.frame (offer_frame _ _) (by decide) (pinAgrees_judgeFree (pinAgrees_record _ _ _ _ before))

theorem pinAgrees_confirmHeld {s : State} (idle : s.carr.pin.engagingForCourse = false) (before : s.PinAgrees) :
    s.confirmHeld.PinAgrees := by
  unfold State.confirmHeld
  split
  next cc course =>
    split
    · exact before
    · refine pinAgrees_judgeDrop (pinAgrees_setCourseCarrier course (fun _ _ engaging => ?_) before)
      simp [idle] at engaging
  · exact before

theorem pinAgrees_pinConfirm {s t : State} (next : exec .pinConfirm s = .next t) (before : s.PinAgrees) :
    t.PinAgrees := by
  simp only [exec, execPinConfirm] at next
  split at next
  · exact Host.Outcome.next.inj next ▸ pinAgrees_reads.frame (bump_frame s _) (by decide) before
  · exact Host.Outcome.next.inj next ▸ pinAgrees_reads.frame (bump_frame s _) (by decide) before
  next c pass _ ofCourse pin =>
    obtain rfl := Host.Outcome.next.inj next
    have engaged : (s.setPin (.engaged c pass)).PinAgrees := pinAgrees_setPin (.inl (by simp [pin])) rfl before
    have recorded := (record_held_frame (s.setPin (.engaged c pass)) c s.ctl.station (s.carrier c).reserved).then
      (offer_frame _ (.pick pass c)) (n := [.carrierTable, .transmitList, .counts])
    have held := pinAgrees_reads.frame recorded (by decide) engaged
    split
    · refine pinAgrees_confirmHeld ?_ held
      rw [show _ = _ from recorded.get .pin]
      rfl
    · exact pinAgrees_startRelease held
  next c pass _ silent pin =>
    have released : (s.setPin .released).PinAgrees := pinAgrees_setPin (.inr rfl) rfl before
    split at next
    · exact Host.Outcome.next.inj next ▸ pinAgrees_judgeFree released
    · exact Host.Outcome.next.inj next ▸ pinAgrees_reads.frame (offer_frame _ _) (by decide)
        (pinAgrees_judgeFree (pinAgrees_record _ _ _ _ released))

theorem pinAgrees_engagementDeadline {s t : State} (next : exec .engagementDeadline s = .next t)
    (before : s.PinAgrees) : t.PinAgrees := by
  obtain ⟨without, _, _⟩ := (pinAgrees_iff s).1 before
  simp only [exec, execEngagementDeadline] at next
  split at next
  · obtain rfl := Host.Outcome.next.inj next
    refine pinAgrees_loseCarrier _ _ (pinAgrees_pinFault fun noCourse => ?_)
    split at noCourse
    · have noCourse : s.course.active = none := ((faultCarrier_frame s).get .active).symm.trans noCourse
      simp [State.faultCarrier, without noCourse]
    · simp_all
  · exact Host.Outcome.next.inj next ▸ before

theorem pinAgrees_releaseDeadline {s t : State} (next : exec .releaseDeadline s = .next t) (before : s.PinAgrees) :
    t.PinAgrees := by
  have faulted : s.pinFault.PinAgrees := pinAgrees_pinFault before.1
  simp only [exec, execReleaseDeadline] at next
  split at next
  · split at next
    · exact Host.Outcome.next.inj next ▸ pinAgrees_judgeFree faulted
    · exact Host.Outcome.next.inj next ▸ pinAgrees_loseCarrier _ _ faulted
  · exact Host.Outcome.next.inj next ▸ before

/-! ### The end and the start of a course -/

/-- No course carrier, and a pin that engages for no course (R145). -/
def State.PinFree (s : State) : Prop :=
  s.carr.course = none ∧ (s.ctl.owner = false → s.carr.pin = .released) ∧ s.carr.pin.engagingForCourse = false

theorem pinFree_reads : Reads State.PinFree [.straps, .pin, .courseCarrier] := by
  constructor
  intro s t same before
  have pin : t.carr.pin = s.carr.pin := same .pin (by decide)
  have course : t.carr.course = s.carr.course := same .courseCarrier (by decide)
  obtain ⟨_, _, owner⟩ : t.ctl.station = s.ctl.station ∧ t.ctl.bedBack = s.ctl.bedBack ∧
    t.ctl.owner = s.ctl.owner := same .straps (by decide)
  unfold State.PinFree
  rwa [pin, course, owner]

theorem State.PinFree.agrees {s : State} (free : s.PinFree) : s.PinAgrees := by
  obtain ⟨course, owner, idle⟩ := free
  exact ⟨fun _ => course, owner, fun c p d pin => absurd pin (not_engagingForCourse idle c p d)⟩

/-- With no engagement of the course in flight any course carrier agrees, while a course runs. -/
theorem pinAgrees_setCourseCarrier_of_free {s : State} (cc : CourseCarrier) (running : s.course.active ≠ none)
    (free : s.PinFree) : (s.setCourseCarrier cc).PinAgrees := by
  obtain ⟨_, owner, idle⟩ := free
  exact ⟨fun noCourse => absurd noCourse running, owner, fun c p d pin => absurd pin (not_engagingForCourse idle c p d)⟩

/-- The pin as a course end leaves it: an engagement in flight belongs to no course any more, and an engaged carrier
is released (R145). -/
def State.pinSettled (s : State) : State :=
  match s.carr.pin with
  | .engaging c pass dl _ => s.setPin (.engaging c pass dl false)
  | _ => s.startRelease

/-- A SELF carrier still waited for at a course end flags it (R145). -/
def State.waitFlagged (s : State) : State :=
  match s.carr.course with
  | some cc => if cc.source = .own ∧ cc.state = .waiting then s.setCourseFlag .carrierMissed else s
  | none => s

theorem State.settleCarrier_eq (s : State) : s.settleCarrier =
    s.pinSettled.waitFlagged.setCarr { s.pinSettled.waitFlagged.carr with course := none } := rfl

theorem pinSettled_frame (s : State) : Frame [.pin] s s.pinSettled := by
  unfold State.pinSettled
  split
  · exact setPin_frame s _
  · exact startRelease_frame s

theorem waitFlagged_frame (s : State) : Frame [.courseFlags, .causes, .latch] s s.waitFlagged := by
  unfold State.waitFlagged
  split
  · exact .ite (setCourseFlag_frame _ _) (.refl _ s)
  · exact .refl _ s

theorem State.pinSettled_idle (s : State) : s.pinSettled.carr.pin.engagingForCourse = false := by
  unfold State.pinSettled State.startRelease
  cases pin : s.carr.pin with
  | released => simp [pin, Pin.engagingForCourse]
  | engaging | engaged => rfl
  | releasing => simp [pin, Pin.engagingForCourse]

theorem State.pinSettled_of_released {s : State} (released : s.carr.pin = .released) : s.pinSettled = s := by
  simp only [State.pinSettled, State.startRelease, released]

theorem pinFree_settleCarrier {s : State} (owned : s.ctl.owner = false → s.carr.pin = .released) :
    s.settleCarrier.PinFree := by
  have rest := (pinSettled_frame s).then (waitFlagged_frame _) (n := [.pin, .courseFlags, .causes, .latch])
  have pin : s.pinSettled.waitFlagged.carr.pin = s.pinSettled.carr.pin := (waitFlagged_frame _).get .pin
  obtain ⟨_, _, owner⟩ : s.pinSettled.waitFlagged.ctl.station = s.ctl.station ∧
    s.pinSettled.waitFlagged.ctl.bedBack = s.ctl.bedBack ∧ s.pinSettled.waitFlagged.ctl.owner = s.ctl.owner :=
    rest.get .straps
  rw [State.settleCarrier_eq]
  refine ⟨rfl, fun noOwner => pin.trans ?_, (congrArg _ pin).trans s.pinSettled_idle⟩
  have released := owned (owner.symm.trans noOwner)
  rwa [State.pinSettled_of_released released]

theorem pinFree_endCourse {s : State} (a : Active) (before : s.PinAgrees) : (s.endCourse a).PinFree := by
  have closed : Frame (([.float, .headWaiting, .headFire] : List Part) ++ leaveParts) s s.closeOutcomes.detachFire :=
    (closeOutcomes_frame s).then (detachFire_frame _)
  have settled : s.settledEnd.PinFree := pinFree_settleCarrier ((pinAgrees_reads.frame closed (by decide) before).2.1)
  have verdict := (reportedEnd_frame s a).then (verdictEnd_frame s a)
    (n := [.transmitList, .counts, .history, .causes, .latch])
  have retired := (releasedEnd_frame s a).then (retired_frame _)
    (n := [.rowSlots, .rowPinned, .pages, .active, .posFrontier])
  exact pinFree_reads.frame retired (by decide) (pinFree_reads.frame verdict (by decide) settled)

/-- Between courses the pin engages for none. -/
theorem pinFree_of_noCourse {s : State} (noCourse : s.course.active = none) (before : s.PinAgrees) : s.PinFree := by
  obtain ⟨without, owner, engaging⟩ := (pinAgrees_iff s).1 before
  refine ⟨without noCourse, owner, ?_⟩
  cases pin : s.carr.pin with
  | engaging c p d ofCourse =>
    cases ofCourse with
    | false => rfl
    | true =>
      obtain ⟨cc, course, _⟩ := engaging c p d pin
      simp [without noCourse] at course
  | released | engaged | releasing => rfl

theorem pinAgrees_judgeStart {s : State} {cc : CourseCarrier} (own : cc.source = .own) (waiting : cc.state = .waiting)
    (running : s.course.active ≠ none) (free : s.PinFree) : (s.judgeStart cc).PinAgrees := by
  have put (dd : CourseCarrier) : (s.setCourseCarrier dd).PinAgrees := pinAgrees_setCourseCarrier_of_free dd running free
  have flagged (dd : CourseCarrier) (f : CourseFlag) : ((s.setCourseCarrier dd).setCourseFlag f).PinAgrees :=
    pinAgrees_reads.frame (setCourseFlag_frame _ _) (by decide) (put dd)
  unfold State.judgeStart
  split
  · exact flagged _ _
  · split
    · exact flagged _ _
    · dsimp only
      split
      · exact put _
      · split_ifs
        · exact pinAgrees_miss rfl true (put _)
        · exact pinAgrees_reached rfl true (put _) own waiting
        · exact put _
    · exact put _

theorem pinAgrees_formCarrier {s : State} (a : Active) (running : s.course.active ≠ none) (free : s.PinFree) :
    (s.formCarrier a).PinAgrees := by
  unfold State.formCarrier
  split
  · obtain ⟨_, owner, idle⟩ := free
    exact ⟨fun _ => rfl, owner, fun c p d pin => absurd pin (not_engagingForCourse idle c p d)⟩
  · obtain ⟨_, owner, idle⟩ := free
    exact ⟨fun noCourse => absurd noCourse running, owner,
      fun c p d pin => absurd pin (not_engagingForCourse idle c p d)⟩
  · exact pinAgrees_judgeStart rfl rfl running (pinFree_reads.frame (setCarr_takes_frame s none) (by decide) free)

theorem pinAgrees_startCourse {s : State} (dir : Dir) (free : s.PinFree) : (s.startCourse dir).PinAgrees := by
  have handed := (loadBacking_frame (s.activate dir) (s.course.nextActive dir)).then
    (contextBegun_frame _ (s.course.nextActive dir)) (n := [.backingTable, .backingShadow, .backingPhase,
      .posRacking, .posIndices, .rowChoice, .cleanRead, .float, .openRun, .pages])
  have running : (((s.activate dir).loadBacking (s.course.nextActive dir)).contextBegun
      (s.course.nextActive dir)).course.active ≠ none := by
    rw [show _ = _ from handed.get .active, State.activate_active]
    exact Option.some_ne_none _
  exact pinAgrees_reads.frame (prime_frame _) (by decide) (pinAgrees_formCarrier _ running
    (pinFree_reads.frame handed (by decide) (pinFree_reads.frame (activate_frame s dir) (by decide) free)))

theorem pinAgrees_directionChange {s : State} (dir : Dir) (before : s.PinAgrees) :
    (s.directionChange dir).PinAgrees := by
  by_cases run : ∃ r, s.ctl.mode = .run r
  · obtain ⟨r, run⟩ := run
    have free : s.ended.PinFree := by
      cases running : s.course.active with
      | none => rw [State.ended_of_noCourse running]; exact pinFree_of_noCourse running before
      | some a => rw [State.ended_of_running running]; exact pinFree_endCourse a before
    rw [State.directionChange_of_run run]
    exact pinAgrees_reads.frame (openFrontier_frame _) (by decide) (pinAgrees_startCourse dir free)
  · rw [State.directionChange_of_notRun fun r h => run ⟨r, h⟩]
    exact before

theorem pinAgrees_encoderEdge {a b : Bool} {s t : State} (next : exec (.encoderEdge a b) s = .next t)
    (before : s.PinAgrees) : t.PinAgrees := by
  have phased : (s.takePhase a b).PinAgrees := pinAgrees_reads.frame (takePhase_frame s a b) (by decide) before
  have formed (d : Int) : ((s.takePhase a b).counting d).form.PinAgrees :=
    pinAgrees_form (pinAgrees_reads.frame (counting_frame _ d) (by decide) phased)
  obtain rfl | rfl | rfl | ⟨d, _, _, _, rfl⟩ | ⟨d, dir, _, _, _, rfl⟩ := exec_encoderEdge_cases next
  · exact phased
  · exact pinAgrees_reads.frame ((setSticky_frame _ _).then (bump_frame _ _) (n := [.sticky, .counts])) (by decide)
      phased
  · exact pinAgrees_reads.frame (setSticky_frame _ _) (by decide) phased
  · exact pinAgrees_reads.frame (arrivals_frame _) (by decide) (formed d)
  · exact pinAgrees_directionChange dir (formed d)

theorem pinAgrees_referenceMark {s t : State} (next : exec .referenceMark s = .next t) (before : s.PinAgrees) :
    t.PinAgrees := by
  obtain rfl | ⟨_, r, _, _, rfl⟩ := exec_referenceMark_cases next
  · exact before
  · have loaded := ((checkSlip_frame s r).then (atKref_frame _ r)
      (n := [.posC, .posTracker, .posReferenced, .sticky, .causes, .latch])).then (intoRun_frame _)
      (n := [.posC, .posTracker, .posReferenced, .sticky, .causes, .latch, .mode])
    exact pinAgrees_reads.frame (arrivals_frame _) (by decide)
      (pinAgrees_form (pinAgrees_reads.frame loaded (by decide) before))

/-! ### The course reset -/

theorem resetPin_pin_of_released {s : State} (released : s.carr.pin = .released) : s.resetPin = s := by
  simp only [State.resetPin, released]

theorem pinFree_resetPin {s : State} (noCarrier : s.carr.course = none)
    (owned : s.ctl.owner = false → s.carr.pin = .released) : s.resetPin.PinFree := by
  have freed (c : Fin 16) (p : Word16) (d : Nat) (n : Notice) (busy : s.carr.pin ≠ .released) :
      ((s.setPin (.releasing c p d true)).offer n).PinFree :=
    pinFree_reads.frame (offer_frame _ n) (by decide)
      ⟨noCarrier, fun noOwner => absurd (owned noOwner) busy, rfl⟩
  unfold State.resetPin
  split
  next released => exact ⟨noCarrier, owned, by rw [released]; rfl⟩
  next pin => exact freed _ _ _ _ (by simp [pin])
  next pin => exact freed _ _ _ _ (by simp [pin])
  next pin => exact freed _ _ _ _ (by simp [pin])

theorem pinAgrees_courseReset {s : State} (before : s.PinAgrees) : s.courseReset.PinAgrees := by
  have free : s.clearedBlocks.resetCarriers.PinFree := pinFree_resetPin rfl before.2.1
  exact (pinFree_reads.frame ((resetPosition_frame _).then (resetHistory_frame _)
    (n := [.posFrontier, .posRacking, .posIndices, .history])) (by decide) free).agrees

theorem pinAgrees_mayReady {s t : State} (h : MayReady s t) (before : s.PinAgrees) : t.PinAgrees := by
  have running := h.running
  obtain ⟨u, frame, last⟩ := h
  have rest : Frame [.rowSlots, .counts, .sticky, .standby, .active] s t := by
    obtain rfl | ⟨row, rfl⟩ := last
    · exact frame.mono
    · exact frame.then (rowReady_frame u row)
  have pin : t.carr.pin = s.carr.pin := rest.get .pin
  have course : t.carr.course = s.carr.course := rest.get .courseCarrier
  obtain ⟨_, _, owner⟩ : t.ctl.station = s.ctl.station ∧ t.ctl.bedBack = s.ctl.bedBack ∧
    t.ctl.owner = s.ctl.owner := rest.get .straps
  have same : t.course.active = none → s.course.active = none := fun none => by
    simpa [State.running, none] using running
  obtain ⟨without, owned, engaging⟩ := before
  refine ⟨fun none => course.trans (without (same none)), ?_, ?_⟩
  · rwa [pin, owner]
  · rwa [pin, course]

/-! ### Every command -/

theorem exec_pinAgrees {c : Instr} {s t : State}
    (touched : ∃ p ∈ [Part.active, .straps, .pin, .courseCarrier], p ∈ footprint c)
    (next : exec c s = .next t) (before : s.PinAgrees) : t.PinAgrees := by
  have ended : s.endMark.PinAgrees := pinAgrees_reads.frame (endMark_frame s) (by decide) before
  cases c with
  | encoderEdge a b => exact pinAgrees_encoderEdge next before
  | referenceMark => exact pinAgrees_referenceMark next before
  | pinConfirm => exact pinAgrees_pinConfirm next before
  | engagementDeadline => exact pinAgrees_engagementDeadline next before
  | releaseDeadline => exact pinAgrees_releaseDeadline next before
  | span body =>
    obtain ⟨_, rfl⟩ | elsewhere := exec_span_cases next
    · exact pinAgrees_mayReady (mayReady_takeSpan _ body) ended
    · exact pinAgrees_reads.frame elsewhere (by decide) before
  | close body =>
    obtain ⟨_, rfl⟩ | elsewhere := exec_close_cases next
    · exact pinAgrees_mayReady (mayReady_takeClose _ body) ended
    · exact pinAgrees_reads.frame elsewhere (by decide) before
  | place x y =>
    obtain ⟨c, rfl⟩ | elsewhere := exec_place_cases next
    · exact pinAgrees_takePlace c y ended
    · exact pinAgrees_reads.frame elsewhere (by decide) before
  | take q pass x =>
    obtain ⟨c, rfl⟩ | elsewhere := exec_take_cases next
    · exact pinAgrees_takeTake q pass c ended
    · exact pinAgrees_reads.frame elsewhere (by decide) before
  | pick q pass x =>
    obtain ⟨c, rfl⟩ | elsewhere := exec_pick_cases next
    · exact pinAgrees_takePick q pass c ended
    · exact pinAgrees_reads.frame elsewhere (by decide) before
  | park q pass x y =>
    obtain ⟨c, rfl⟩ | elsewhere := exec_park_cases next
    · exact pinAgrees_takePark pass c y ended
    · exact pinAgrees_reads.frame elsewhere (by decide) before
  | reset q =>
    obtain ⟨_, _, rfl⟩ | elsewhere := exec_reset_cases next
    · exact pinAgrees_courseReset ended
    · exact pinAgrees_reads.frame elsewhere (by decide) before
  | noticeSent =>
    obtain rfl | ⟨n, _, rfl⟩ := exec_noticeSent_cases next
    · exact before
    · exact pinAgrees_toldSent n (pinAgrees_reads.frame ((drop_frame s n).then (endMark_frame _)
        (n := ([.transmitList, .sending, .guardOff] : List Part) ++ noticeParts)) (by decide) before)
  | guardCut =>
    cases sending : s.line.sending with
    | none =>
      rw [exec_guardCut_of_quiet sending] at next
      exact Host.Outcome.next.inj next ▸ before
    | some n =>
      rw [exec_guardCut_of_sending sending] at next
      exact Host.Outcome.next.inj next ▸ pinAgrees_toldLost n
        (pinAgrees_reads.frame (guardLost_frame s n) (by decide) before)
  | hardReset x a b r =>
    obtain rfl := Host.Outcome.next.inj next
    exact pinAgrees_of_released rfl fun _ => rfl
  | _ => exact nomatch touches_of_mem touched

/-- Settles O13, each invariant by the commands that touch what it reads. -/
theorem stepKeepsTheCarrierUnit : Obligations.StepKeepsTheCarrierUnit := fun _ _ next =>
  ⟨pinAgrees_reads.step exec_pinAgrees (by decide) next, parksOnRail_reads.step exec_parksOnRail (by decide) next⟩

end Sys2Proof.Machine
end

section
/-! PROOF. Painting a range of a span list (R21, R22, R29, R30, R31): the list in its canonical form is a sequence of
spans each apart from the later ones, and a colour is the one a list shows. -/

namespace Sys2Proof.Machine

/-! ### The canonical form -/

/-- Two spans in order, with needles between them or of different colours (R21). -/
def Span.Apart (x y : Span) : Prop := x.last < y.first ∧ (x.last + 1 = y.first → x.colour ≠ y.colour)

theorem Span.before_iff (x y : Span) : x.before y = true ↔ x.Apart y := by
  simp only [Span.before, Span.Apart, Bool.and_eq_true, decide_eq_true_eq, Bool.not_eq_true', Bool.and_eq_false_iff,
    beq_eq_false_iff_ne, ne_eq, imp_iff_not_or]

theorem Span.ok_iff (w : Nat) (x : Span) :
    x.ok w = true ↔ x.first ≤ x.last ∧ x.last < w ∧ 1 ≤ x.colour ∧ x.colour ≤ 15 := by
  simp only [Span.ok, Bool.and_eq_true, decide_eq_true_eq, and_assoc]

theorem Span.Apart.trans {x y z : Span} (h : x.Apart y) (k : y.Apart z) (holds : y.first ≤ y.last) : x.Apart z := by
  unfold Span.Apart at *
  omega

/-- Neighbours apart are spans apart, in a list of spans that hold a needle. -/
theorem chained_iff_pairwise {l : List Span} (hold : ∀ x ∈ l, x.first ≤ x.last) :
    chained l = true ↔ l.Pairwise Span.Apart := by
  induction l with
  | nil => simp [chained]
  | cons x l ih =>
    have tail := ih fun y member => hold y (List.mem_cons_of_mem _ member)
    cases l with
    | nil => simp [chained]
    | cons y l =>
      have holdY := hold y (by simp)
      simp only [chained, Bool.and_eq_true, Span.before_iff, tail, List.pairwise_cons (a := x)]
      refine and_congr_left fun apart => ⟨fun next z member => ?_, fun all => all y (by simp)⟩
      obtain rfl | later := List.mem_cons.1 member
      · exact next
      · exact next.trans ((List.pairwise_cons.1 apart).1 z later) holdY

/-- The form of R21 without the capacity. -/
structure InSpans (w : Nat) (l : List Span) : Prop where
  ok : ∀ x ∈ l, x.ok w = true
  apart : l.Pairwise Span.Apart

theorem InSpans.hold {w : Nat} {l : List Span} (form : InSpans w l) {x : Span} (member : x ∈ l) :
    x.first ≤ x.last := ((Span.ok_iff w x).1 (form.ok x member)).1

theorem canonical_iff (w : Nat) (l : List Span) : canonical w l = true ↔ InSpans w l ∧ l.length ≤ 384 := by
  simp only [canonical, Bool.and_eq_true, List.all_eq_true, decide_eq_true_eq]
  refine and_congr_left fun _ => ⟨fun ⟨ok, chain⟩ => ⟨ok, ?_⟩, fun form => ⟨form.ok, ?_⟩⟩
  · exact (chained_iff_pairwise fun x member => ((Span.ok_iff w x).1 (ok x member)).1).1 chain
  · exact (chained_iff_pairwise fun x member => form.hold member).2 form.apart

/-! ### The colours a list shows -/

/-- A span of the list shows needle `n` in the colour. -/
def Shows (l : List Span) (n colour : Nat) : Prop := ∃ x ∈ l, x.first ≤ n ∧ n ≤ x.last ∧ x.colour = colour

theorem shows_append (l m : List Span) (n c : Nat) : Shows (l ++ m) n c ↔ Shows l n c ∨ Shows m n c := by
  simp only [Shows, List.mem_append, or_and_right, exists_or]

theorem shows_cons (x : Span) (l : List Span) (n c : Nat) :
    Shows (x :: l) n c ↔ (x.first ≤ n ∧ n ≤ x.last ∧ x.colour = c) ∨ Shows l n c := by
  simp only [Shows, List.mem_cons, or_and_right, exists_or, exists_eq_left]

theorem colourAt_of_shows {l : List Span} {n c : Nat} (apart : l.Pairwise Span.Apart) (shown : Shows l n c) :
    colourAt n l = c := by
  induction l with
  | nil => obtain ⟨x, member, _⟩ := shown; cases member
  | cons x l ih =>
    obtain ⟨before, rest⟩ := List.pairwise_cons.1 apart
    obtain ⟨low, high, rfl⟩ | ⟨y, member, low, high, rfl⟩ := (shows_cons x l n c).1 shown
    · simp [colourAt, low, high]
    · have beyond : ¬ n ≤ x.last := by
        have := (before y member).1
        omega
      have skip : colourAt n (x :: l) = colourAt n l := by simp [colourAt, beyond]
      rw [skip]
      exact ih rest ⟨y, member, low, high, rfl⟩

theorem colourAt_of_not_shows {l : List Span} {n : Nat} (dark : ∀ c, ¬ Shows l n c) : colourAt n l = 0 := by
  have missing : (l.find? fun x => decide (x.first ≤ n) && decide (n ≤ x.last)) = none := by
    refine List.find?_eq_none.2 fun x member found => dark x.colour ⟨x, member, ?_⟩
    simpa using found
  simp only [colourAt, missing]

/-- Lists that show a needle alike colour it alike. -/
theorem colourAt_congr {l m : List Span} {n : Nat} (apart : l.Pairwise Span.Apart) (apart' : m.Pairwise Span.Apart)
    (same : ∀ c, Shows l n c ↔ Shows m n c) : colourAt n l = colourAt n m := by
  by_cases shown : ∃ c, Shows l n c
  · obtain ⟨c, shown⟩ := shown
    rw [colourAt_of_shows apart shown, colourAt_of_shows apart' ((same c).1 shown)]
  · have dark : ∀ c, ¬ Shows l n c := fun c h => shown ⟨c, h⟩
    rw [colourAt_of_not_shows dark, colourAt_of_not_shows fun c h => dark c ((same c).2 h)]

/-! ### The cut -/

section Cut
variable {a b : Nat} (ordered : a ≤ b)
include ordered

omit ordered in
/-- A piece of the cut lies in its span, holds a needle, and lies beside the range. -/
theorem mem_cutSpan {x p : Span} (member : p ∈ cutSpan a b x) (hold : x.first ≤ x.last) :
    x.first ≤ p.first ∧ p.first ≤ p.last ∧ p.last ≤ x.last ∧ p.colour = x.colour ∧ (p.last < a ∨ b < p.first) := by
  unfold cutSpan at member
  split at member
  · obtain rfl := List.mem_singleton.1 member
    simp_all
  next overlaps =>
    simp only [Bool.or_eq_true, decide_eq_true_eq, not_or, not_lt] at overlaps
    rw [List.mem_append] at member
    obtain left | right := member
    · split at left
      · obtain rfl := List.mem_singleton.1 left
        dsimp only
        omega
      · cases left
    · split at right
      · obtain rfl := List.mem_singleton.1 right
        dsimp only
        omega
      · cases right

omit ordered in
/-- Beside the range the pieces show what the span showed. -/
theorem shows_cutSpan {x : Span} {n : Nat} (beside : n < a ∨ b < n) (c : Nat) :
    Shows (cutSpan a b x) n c ↔ x.first ≤ n ∧ n ≤ x.last ∧ x.colour = c := by
  unfold cutSpan
  split
  · simp [Shows]
  · split <;> split <;> (simp_all [Shows]; omega)

theorem apart_cutSpan (x : Span) : (cutSpan a b x).Pairwise Span.Apart := by
  unfold cutSpan
  split
  · simp
  · split <;> split <;> simp [Span.Apart]
    omega

variable {w : Nat} {l : List Span} (form : InSpans w l)
include form

theorem inSpans_cutList : InSpans w (cutList a b l) := by
  constructor
  · intro p member
    obtain ⟨x, found, piece⟩ := List.mem_flatMap.1 member
    have ok := (Span.ok_iff w x).1 (form.ok x found)
    obtain ⟨_, hold, high, colour, _⟩ := mem_cutSpan piece ok.1
    rw [Span.ok_iff, colour]
    omega
  · refine List.pairwise_flatMap.2 ⟨fun x _ => apart_cutSpan ordered x, ?_⟩
    refine form.apart.imp_of_mem fun {x y} hx hy apart p hp q hq => ?_
    obtain ⟨_, _, high, colour, _⟩ := mem_cutSpan hp (form.hold hx)
    obtain ⟨low, _, _, colour', _⟩ := mem_cutSpan hq (form.hold hy)
    obtain ⟨before, differ⟩ := apart
    rw [Span.Apart, colour, colour']
    exact ⟨by omega, fun touch => differ (by omega)⟩

omit ordered in
theorem beside_cutList {p : Span} (member : p ∈ cutList a b l) : p.last < a ∨ b < p.first := by
  obtain ⟨x, found, piece⟩ := List.mem_flatMap.1 member
  obtain ⟨_, _, _, _, beside⟩ := mem_cutSpan piece (form.hold found)
  exact beside

omit ordered form in
theorem shows_cutList {n : Nat} (beside : n < a ∨ b < n) (c : Nat) : Shows (cutList a b l) n c ↔ Shows l n c := by
  have pieces (x : Span) := shows_cutSpan (x := x) beside c
  simp only [Shows] at pieces
  simp only [Shows, cutList, List.mem_flatMap]
  constructor
  · rintro ⟨p, ⟨x, found, piece⟩, shown⟩
    exact ⟨x, found, (pieces x).1 ⟨p, piece, shown⟩⟩
  · rintro ⟨x, found, shown⟩
    obtain ⟨p, piece, shown⟩ := (pieces x).2 shown
    exact ⟨p, ⟨x, found, piece⟩, shown⟩

omit ordered in
/-- Within the range the cut list shows nothing. -/
theorem not_shows_cutList {n : Nat} (low : a ≤ n) (high : n ≤ b) (c : Nat) : ¬ Shows (cutList a b l) n c := by
  rintro ⟨p, member, first, last, _⟩
  have := beside_cutList form member
  omega

end Cut

/-- A list beside the range is what stands left of it, followed by what stands right of it. -/
theorem leftOf_append_rightOf {a b w : Nat} (ordered : a ≤ b) {k : List Span} (form : InSpans w k)
    (beside : ∀ p ∈ k, p.last < a ∨ b < p.first) : leftOf a k ++ rightOf b k = k := by
  induction k with
  | nil => rfl
  | cons x k ih =>
    have rest : InSpans w k := ⟨fun y h => form.ok y (List.mem_cons_of_mem _ h), (List.pairwise_cons.1 form.apart).2⟩
    have hold := form.hold (List.mem_cons_self (a := x) (l := k))
    have split := ih rest fun p h => beside p (List.mem_cons_of_mem _ h)
    obtain left | right := beside x (by simp)
    · have notRight : ¬ b < x.first := by omega
      simp only [leftOf, rightOf, List.filter_cons, left, notRight, decide_true, decide_false, if_true,
        Bool.false_eq_true, if_false, List.cons_append] at split ⊢
      rw [split]
    · have notLeft : ¬ x.last < a := by omega
      have noneLeft : leftOf a k = [] := by
        refine List.filter_eq_nil_iff.2 fun y member => ?_
        have after := ((List.pairwise_cons.1 form.apart).1 y member).1
        have holdY := rest.hold member
        simp only [decide_eq_true_eq]
        omega
      rw [noneLeft, List.nil_append] at split
      simp only [leftOf, rightOf, List.filter_cons, right, notLeft, decide_true, decide_false, if_true,
        Bool.false_eq_true, if_false] at split noneLeft ⊢
      rw [noneLeft, split, List.nil_append]

/-! ### The two ends of the new span -/

/-- What is kept left of the new span, and where that span begins (R30). -/
def paintLeft (a c : Nat) (k : List Span) : List Span × Nat :=
  match mergesLeft a c k with
  | some x => ((leftOf a k).dropLast, x.first)
  | none => (leftOf a k, a)

/-- What is kept right of the new span, and where that span ends (R30). -/
def paintRight (b c : Nat) (k : List Span) : List Span × Nat :=
  match mergesRight b c k with
  | some x => ((rightOf b k).tail, x.last)
  | none => (rightOf b k, b)

theorem paint_eq (a b c : Nat) (l : List Span) : paint a b c l =
    if c = 0 then cutList a b l
    else (paintLeft a c (cutList a b l)).1 ++
      ⟨(paintLeft a c (cutList a b l)).2, (paintRight b c (cutList a b l)).2, c⟩ ::
        (paintRight b c (cutList a b l)).1 := rfl

theorem mergesLeft_eq_some {a c : Nat} {k : List Span} {x : Span} (merges : mergesLeft a c k = some x) :
    leftOf a k = (leftOf a k).dropLast ++ [x] ∧ x.last + 1 = a ∧ x.colour = c := by
  unfold mergesLeft at merges
  split at merges
  next y last =>
    split at merges
    next touches =>
      obtain rfl := Option.some.inj merges
      exact ⟨(List.dropLast_append_getLast? _ last).symm, touches⟩
    · cases merges
  · cases merges

theorem mergesLeft_eq_none {a c : Nat} {k : List Span} (alone : mergesLeft a c k = none) {x : Span}
    (last : (leftOf a k).getLast? = some x) : ¬ (x.last + 1 = a ∧ x.colour = c) := by
  intro touches
  simp [mergesLeft, last, touches] at alone

theorem mergesRight_eq_some {b c : Nat} {k : List Span} {x : Span} (merges : mergesRight b c k = some x) :
    rightOf b k = x :: (rightOf b k).tail ∧ x.first = b + 1 ∧ x.colour = c := by
  unfold mergesRight at merges
  split at merges
  next y head =>
    split at merges
    next touches =>
      obtain rfl := Option.some.inj merges
      exact ⟨List.eq_cons_of_mem_head? head, touches⟩
    · cases merges
  · cases merges

theorem mergesRight_eq_none {b c : Nat} {k : List Span} (alone : mergesRight b c k = none) {x : Span}
    (head : (rightOf b k).head? = some x) : ¬ (x.first = b + 1 ∧ x.colour = c) := by
  intro touches
  simp [mergesRight, head, touches] at alone

/-- What the left end of the new span comes to: it begins at or before the range on the bed, apart from what is kept
left of it, and shows with that what stood there. -/
structure LeftEnd (a c w : Nat) (k kept : List Span) (first : Nat) : Prop where
  first_le : first ≤ a
  sublist : kept.Sublist (leftOf a k)
  apart : ∀ x ∈ kept, x.last < first ∧ (x.last + 1 = first → x.colour ≠ c)
  shows : ∀ n d, Shows (leftOf a k) n d ↔ Shows kept n d ∨ (first ≤ n ∧ n < a ∧ d = c)
  count : (leftOf a k).length = kept.length + if (mergesLeft a c k).isSome then 1 else 0

theorem paintLeft_leftEnd {a c w : Nat} {k : List Span} (form : InSpans w k) :
    LeftEnd a c w k (paintLeft a c k).1 (paintLeft a c k).2 := by
  have apart : (leftOf a k).Pairwise Span.Apart := form.apart.sublist List.filter_sublist
  have left {x : Span} (member : x ∈ leftOf a k) : x.first ≤ x.last ∧ x.last < a := by
    obtain ⟨found, short⟩ := List.mem_filter.1 member
    exact ⟨form.hold found, of_decide_eq_true short⟩
  unfold paintLeft
  cases merges : mergesLeft a c k with
  | some x =>
    obtain ⟨split, touch, rfl⟩ := mergesLeft_eq_some merges
    have hold := left (x := x) (by rw [split]; simp)
    rw [split, List.pairwise_append] at apart
    refine ⟨by dsimp only; omega, List.dropLast_sublist _, fun y member => ?_, fun n d => ?_, ?_⟩
    · exact apart.2.2 y member x (by simp)
    · conv_lhs => rw [split, shows_append, shows_cons]
      simp only [Shows, List.not_mem_nil, false_and, exists_false, or_false]
      refine or_congr_right ⟨fun ⟨low, high, same⟩ => ⟨low, by omega, same.symm⟩,
        fun ⟨low, high, same⟩ => ⟨low, by omega, same.symm⟩⟩
    · conv_lhs => rw [split]
      simp [merges]
  | none =>
    refine ⟨le_rfl, List.Sublist.refl _, fun y member => ⟨(left member).2, fun touch same => ?_⟩, fun n d => ?_, ?_⟩
    · obtain ⟨before, last, split⟩ : ∃ before last, leftOf a k = before ++ [last] :=
        ⟨_, _, (List.dropLast_append_getLast (List.ne_nil_of_mem member)).symm⟩
      have alone := mergesLeft_eq_none merges (x := last) (by rw [split]; simp)
      have lastLeft := left (x := last) (by rw [split]; simp)
      rw [split] at member apart
      obtain earlier | rfl := (List.mem_append.1 member).imp_right List.mem_singleton.1
      · have order := ((List.pairwise_append.1 apart).2.2 y earlier last (by simp)).1
        dsimp only at touch
        omega
      · exact alone ⟨touch, same⟩
    · refine ⟨.inl, fun shown => shown.elim id fun ⟨low, high, _⟩ => absurd low (by dsimp only; omega)⟩
    · simp [merges]

/-- What the right end of the new span comes to, as the left end does. -/
structure RightEnd (b c w : Nat) (k kept : List Span) (last : Nat) : Prop where
  le_last : b ≤ last
  last_lt : b < w → last < w
  sublist : kept.Sublist (rightOf b k)
  apart : ∀ x ∈ kept, last < x.first ∧ (last + 1 = x.first → c ≠ x.colour)
  shows : ∀ n d, Shows (rightOf b k) n d ↔ (b < n ∧ n ≤ last ∧ d = c) ∨ Shows kept n d
  count : (rightOf b k).length = kept.length + if (mergesRight b c k).isSome then 1 else 0

theorem paintRight_rightEnd {b c w : Nat} {k : List Span} (form : InSpans w k) :
    RightEnd b c w k (paintRight b c k).1 (paintRight b c k).2 := by
  have apart : (rightOf b k).Pairwise Span.Apart := form.apart.sublist List.filter_sublist
  have right {x : Span} (member : x ∈ rightOf b k) : b < x.first ∧ x.first ≤ x.last ∧ x.last < w := by
    obtain ⟨found, beyond⟩ := List.mem_filter.1 member
    have ok := (Span.ok_iff w x).1 (form.ok x found)
    exact ⟨of_decide_eq_true beyond, ok.1, ok.2.1⟩
  unfold paintRight
  cases merges : mergesRight b c k with
  | some x =>
    obtain ⟨split, touch, rfl⟩ := mergesRight_eq_some merges
    have hold := right (x := x) (by rw [split]; simp)
    rw [split, List.pairwise_cons] at apart
    refine ⟨by dsimp only; omega, fun _ => hold.2.2, List.tail_sublist _, fun y member => ?_, fun n d => ?_, ?_⟩
    · exact apart.1 y member
    · conv_lhs => rw [split, shows_cons]
      refine or_congr_left ⟨fun ⟨low, high, same⟩ => ⟨by omega, high, same.symm⟩,
        fun ⟨low, high, same⟩ => ⟨by omega, high, same.symm⟩⟩
    · conv_lhs => rw [split]
      simp [merges]
  | none =>
    refine ⟨le_rfl, id, List.Sublist.refl _, fun y member => ⟨(right member).1, fun touch same => ?_⟩,
      fun n d => ?_, ?_⟩
    · dsimp only at member touch
      obtain ⟨head, after, split⟩ := List.exists_cons_of_ne_nil (List.ne_nil_of_mem member)
      have alone := mergesRight_eq_none merges (x := head) (by rw [split]; rfl)
      have headRight := right (x := head) (by rw [split]; simp)
      rw [split] at member apart
      obtain rfl | later := List.mem_cons.1 member
      · exact alone ⟨touch.symm, same.symm⟩
      · have order := ((List.pairwise_cons.1 apart).1 y later).1
        omega
    · refine ⟨.inr, fun shown => shown.elim (fun ⟨low, high, _⟩ => absurd high (by dsimp only; omega)) id⟩
    · simp [merges]

/-! ### The painted list -/

section Paint
variable {w a b c : Nat} {l : List Span} (form : InSpans w l) (ordered : a ≤ b)
include form ordered

theorem inSpans_paint (inside : b < w) (colour : c ≤ 15) : InSpans w (paint a b c l) := by
  have cut := inSpans_cutList ordered form
  rw [paint_eq]
  split
  · exact cut
  next coloured =>
    have left := paintLeft_leftEnd (a := a) (c := c) cut
    have right := paintRight_rightEnd (b := b) (c := c) cut
    have whole := leftOf_append_rightOf ordered cut fun p => beside_cutList form
    have apart := cut.apart
    rw [← whole, List.pairwise_append] at apart
    obtain ⟨_, _, across⟩ := apart
    have reaches := right.le_last
    have begins := left.first_le
    constructor
    · intro x member
      rw [List.mem_append, List.mem_cons] at member
      obtain kept | rfl | kept := member
      · exact cut.ok x (List.mem_of_mem_filter (left.sublist.subset kept))
      · exact (Span.ok_iff w _).2 ⟨by dsimp only; omega, right.last_lt inside, by dsimp only; omega, colour⟩
      · exact cut.ok x (List.mem_of_mem_filter (right.sublist.subset kept))
    · refine List.pairwise_append.2 ⟨cut.apart.sublist (left.sublist.trans List.filter_sublist),
        List.pairwise_cons.2 ⟨right.apart, cut.apart.sublist (right.sublist.trans List.filter_sublist)⟩,
        fun x hx y hy => ?_⟩
      obtain rfl | kept := List.mem_cons.1 hy
      · exact left.apart x hx
      · exact across x (left.sublist.subset hx) y (right.sublist.subset kept)

theorem length_paint : (paint a b c l).length = paintCount a b c l := by
  have cut := inSpans_cutList ordered form
  have whole := congrArg List.length (leftOf_append_rightOf ordered cut fun p => beside_cutList form)
  rw [List.length_append] at whole
  rw [paint_eq]
  unfold paintCount
  dsimp only
  split
  next clear => simp [clear]
  next coloured =>
    have left := (paintLeft_leftEnd (a := a) (c := c) cut).count
    have right := (paintRight_rightEnd (b := b) (c := c) cut).count
    simp only [List.length_append, List.length_cons, coloured, not_false_eq_true, true_and, ne_eq]
    split_ifs at left right ⊢ <;> omega

theorem colourAt_paint (inside : b < w) (colour : c ≤ 15) (n : Nat) :
    colourAt n (paint a b c l) = if a ≤ n ∧ n ≤ b then c else colourAt n l := by
  have cut := inSpans_cutList ordered form
  have painted := inSpans_paint form ordered inside colour
  have left := paintLeft_leftEnd (a := a) (c := c) cut
  have right := paintRight_rightEnd (b := b) (c := c) cut
  have begins := left.first_le
  have reaches := right.le_last
  split
  next within =>
    obtain ⟨low, high⟩ := within
    by_cases clear : c = 0
    · rw [paint_eq, if_pos clear, clear]
      exact colourAt_of_not_shows (not_shows_cutList form low high)
    · refine colourAt_of_shows painted.apart ?_
      rw [paint_eq, if_neg clear, shows_append, shows_cons]
      exact .inr (.inl ⟨by dsimp only; omega, by dsimp only; omega, rfl⟩)
  next beside =>
    have beside : n < a ∨ b < n := by omega
    refine colourAt_congr painted.apart form.apart fun d => ?_
    rw [paint_eq]
    split
    · exact shows_cutList beside d
    · conv_rhs => rw [← shows_cutList (l := l) beside d, ← leftOf_append_rightOf ordered cut fun p => beside_cutList form, shows_append,
        left.shows, right.shows]
      rw [shows_append, shows_cons]
      constructor
      · rintro (shown | ⟨low, high, rfl⟩ | shown)
        · exact .inl (.inl shown)
        · dsimp only at low high
          obtain before | after := beside
          · exact .inl (.inr ⟨low, before, rfl⟩)
          · exact .inr (.inl ⟨after, high, rfl⟩)
        · exact .inr (.inr shown)
      · rintro ((shown | ⟨low, high, rfl⟩) | (⟨low, high, rfl⟩ | shown))
        · exact .inl shown
        · exact .inr (.inl ⟨low, by dsimp only; omega, rfl⟩)
        · exact .inr (.inl ⟨by dsimp only; omega, high, rfl⟩)
        · exact .inr (.inr shown)

end Paint

/-- Settles O22, by the cut beside the range and the two ends of the new span. -/
theorem paintedRangeTakesTheColour : Obligations.PaintedRangeTakesTheColour := by
  intro w a b c l canon ordered inside colour
  obtain ⟨form, _⟩ := (canonical_iff w l).1 canon
  refine ⟨colourAt_paint form ordered inside colour, length_paint form ordered, fun fits => ?_⟩
  exact (canonical_iff w _).2 ⟨inSpans_paint form ordered inside colour, (length_paint form ordered).trans_le fits⟩

end Sys2Proof.Machine
end

section
/-! PROOF. The row store keeps its form (R21, R24, R25): span lists, arrival numbers, one slot a row. -/

namespace Sys2Proof.Machine

/-! ### The held slots -/

/-- The numbers of the held slots. -/
def RowStore.held (u : RowStore) : Finset (Fin 4) := Finset.univ.filter fun i => u.slots[i].isSome

theorem RowStore.mem_held {u : RowStore} {i : Fin 4} : i ∈ u.held ↔ u.slots[i] ≠ none := by
  simp [RowStore.held, Option.isSome_iff_ne_none]

theorem RowStore.card_held (u : RowStore) : u.held.card = 4 - u.freeCount := by
  have free : u.freeCount = (Finset.univ.filter fun i : Fin 4 => ¬ u.slots[i].isSome = true).card := by
    simp only [RowStore.freeCount, allSlots, Finset.card_filter, Fin.sum_univ_four, List.filter_cons,
      List.filter_nil, Bool.not_eq_true, Option.isSome_eq_false_iff]
    split_ifs <;> rfl
  have all := Finset.card_filter_add_card_filter_not (s := (Finset.univ : Finset (Fin 4)))
    fun i => u.slots[i].isSome = true
  rw [Finset.card_univ, Fintype.card_fin] at all
  rw [free]
  unfold RowStore.held
  omega

theorem foldl_max_le {l : List Nat} {a n : Nat} (first : a ≤ n) (all : ∀ x ∈ l, x ≤ n) : l.foldl max a ≤ n := by
  induction l generalizing a with
  | nil => exact first
  | cons x l ih =>
    exact ih (max_le first (all x (by simp))) fun y member => all y (List.mem_cons_of_mem _ member)

theorem RowStore.newestSeq_le {u : RowStore} {n : Nat}
    (bound : ∀ (i : Fin 4) (x : Slot), u.slots[i] = some x → x.seq ≤ n) : u.newestSeq ≤ n := by
  refine foldl_max_le (Nat.zero_le n) fun k member => ?_
  obtain ⟨i, _, listed⟩ := List.mem_filterMap.1 member
  obtain ⟨x, held, rfl⟩ := Option.map_eq_some_iff.1 listed
  exact bound i x held

/-! ### The form of the store -/

/-- A slot's span list and count are in form for a bed of width `w` (R21). -/
def Slot.inForm (x : Slot) (w : Nat) : Prop := canonical w x.spans = true ∧ x.count ≤ 65535

/-- The form of a row store on a bed of width `w`. -/
structure RowStore.InForm (u : RowStore) (w : Nat) : Prop where
  slot : ∀ (i : Fin 4) (x : Slot), u.slots[i] = some x → x.inForm w
  seq_pos : ∀ (i : Fin 4) (x : Slot), u.slots[i] = some x → 1 ≤ x.seq
  seq_le : ∀ (i : Fin 4) (x : Slot), u.slots[i] = some x → x.seq ≤ u.held.card
  apart : ∀ (i j : Fin 4) (x y : Slot), i ≠ j → u.slots[i] = some x → u.slots[j] = some y →
    x.row ≠ y.row ∧ x.seq ≠ y.seq

theorem rowsInForm_iff (s : State) : s.RowsInForm ↔
    (s.ctl.mode = .setup → ∀ i : Fin 4, s.rows.slots[i] = none) ∧ s.rows.InForm s.width := by
  unfold State.RowsInForm
  refine and_congr_right fun _ => ⟨fun ⟨form, apart⟩ => ⟨?_, ?_, ?_, apart⟩, fun form => ⟨?_, form.apart⟩⟩
  · exact fun i x held => ⟨(form i x held).1, (form i x held).2.1⟩
  · exact fun i x held => (form i x held).2.2.1
  · exact fun i x held => s.rows.card_held ▸ (form i x held).2.2.2
  · intro i x held
    obtain ⟨spans, count⟩ := form.slot i x held
    exact ⟨spans, count, form.seq_pos i x held, s.rows.card_held ▸ form.seq_le i x held⟩

theorem RowStore.inForm_of_empty {u : RowStore} (empty : ∀ i : Fin 4, u.slots[i] = none) (w : Nat) : u.InForm w := by
  constructor <;> simp [empty]

section Form
variable {u : RowStore} {w : Nat} (form : u.InForm w)
include form

/-- A held slot may take other spans, state and count. -/
theorem RowStore.InForm.put {i : Fin 4} {x y : Slot} (held : u.slots[i] = some x) (row : y.row = x.row)
    (seq : y.seq = x.seq) (inForm : y.inForm w) : (u.put i (some y)).InForm w := by
  have old {j : Fin 4} {z : Slot} (h : (u.put i (some y)).slots[j] = some z) :
      z.inForm w ∧ ∃ z', u.slots[j] = some z' ∧ z'.row = z.row ∧ z'.seq = z.seq := by
    rw [RowStore.put_slot] at h
    split at h
    next here =>
      obtain rfl := Option.some.inj h
      exact ⟨inForm, x, here ▸ held, row.symm, seq.symm⟩
    · exact ⟨form.slot j z h, z, h, rfl, rfl⟩
  have same : (u.put i (some y)).held = u.held := by
    ext j
    rw [RowStore.mem_held, RowStore.mem_held, RowStore.put_slot]
    split
    next here => simp [← here, held]
    · rfl
  refine ⟨fun j z h => (old h).1, fun j z h => ?_, fun j z h => ?_, fun j k z v other h h' => ?_⟩
  · obtain ⟨_, z', held', _, seq'⟩ := old h
    exact seq' ▸ form.seq_pos j z' held'
  · obtain ⟨_, z', held', _, seq'⟩ := old h
    exact same ▸ seq' ▸ form.seq_le j z' held'
  · obtain ⟨_, z', heldZ, rowZ, seqZ⟩ := old h
    obtain ⟨_, v', heldV, rowV, seqV⟩ := old h'
    exact rowZ ▸ seqZ ▸ rowV ▸ seqV ▸ form.apart j k z' v' other heldZ heldV

/-- A FREE slot is taken for a row that has none, as the newest (R24, R27). -/
theorem RowStore.InForm.takeSlot {i : Fin 4} {row : Word16} (free : u.slots[i] = none)
    (new : ∀ (j : Fin 4) (x : Slot), u.slots[j] = some x → x.row ≠ row) : (u.takeSlot i row).InForm w := by
  have cases {j : Fin 4} {z : Slot} (h : (u.takeSlot i row).slots[j] = some z) :
      (i = j ∧ z = ⟨.filling, row, u.newestSeq + 1, 0, []⟩) ∨ (i ≠ j ∧ u.slots[j] = some z) := by
    rw [RowStore.takeSlot_slot] at h
    split at h
    next here => exact .inl ⟨here, (Option.some.inj h).symm⟩
    next other => exact .inr ⟨other, h⟩
  have taken : (u.takeSlot i row).held = insert i u.held := by
    ext j
    rw [RowStore.mem_held, Finset.mem_insert, RowStore.mem_held, RowStore.takeSlot_slot]
    split
    next here => simp [here]
    next other => simp [Ne.symm other]
  have card : (u.takeSlot i row).held.card = u.held.card + 1 := by
    rw [taken, Finset.card_insert_of_notMem (by rw [RowStore.mem_held]; simp [free])]
  have newest : u.newestSeq ≤ u.held.card := RowStore.newestSeq_le form.seq_le
  have below {j : Fin 4} {z : Slot} (h : u.slots[j] = some z) : z.seq < u.newestSeq + 1 :=
    Nat.lt_succ_of_le (RowStore.seq_le_newestSeq h)
  refine ⟨fun j z h => ?_, fun j z h => ?_, fun j z h => ?_, fun j k z v other h h' => ?_⟩
  · obtain ⟨_, rfl⟩ | ⟨_, held⟩ := cases h
    · exact ⟨by simp [canonical, chained], Nat.zero_le _⟩
    · exact form.slot j z held
  · obtain ⟨_, rfl⟩ | ⟨_, held⟩ := cases h
    · exact Nat.succ_pos _
    · exact form.seq_pos j z held
  · rw [card]
    obtain ⟨_, rfl⟩ | ⟨_, held⟩ := cases h
    · exact Nat.succ_le_succ newest
    · exact (form.seq_le j z held).trans (Nat.le_succ _)
  · obtain ⟨here, rfl⟩ | ⟨_, heldZ⟩ := cases h <;> obtain ⟨here', rfl⟩ | ⟨_, heldV⟩ := cases h'
    · exact absurd (here.symm.trans here') other
    · exact ⟨(new k v heldV).symm, (below heldV).ne'⟩
    · exact ⟨new j z heldZ, (below heldZ).ne⟩
    · exact form.apart j k z v other heldZ heldV

/-- A slot becomes FREE (R24). -/
theorem RowStore.InForm.free (i : Fin 4) : (u.free i).InForm w := by
  cases held : u.slots[i] with
  | none =>
    have kept : u.free i = u := by simp only [RowStore.free, held]
    rwa [kept]
  | some x =>
    have old {j : Fin 4} {z : Slot} (h : (u.free i).slots[j] = some z) :
        ∃ y, i ≠ j ∧ u.slots[j] = some y ∧ y.seq ≠ x.seq ∧
          z = { y with seq := if x.seq < y.seq then y.seq - 1 else y.seq } := by
      have other : i ≠ j := by
        rintro rfl
        simp [u.free_slot i i x held] at h
      cases beside : u.slots[j] with
      | none => simp [u.free_slot i j x held, other, beside] at h
      | some y =>
        rw [RowStore.free_slot_ne held other.symm beside] at h
        exact ⟨y, other, rfl, (form.apart j i y x other.symm beside held).2, (Option.some.inj h).symm⟩
    have freed : (u.free i).held = u.held.erase i := by
      ext j
      rw [RowStore.mem_held, Finset.mem_erase, RowStore.mem_held, u.free_slot i j x held]
      split
      next here => simp [here]
      next other => simp [Ne.symm other]
    have card : (u.free i).held.card = u.held.card - 1 := by
      rw [freed, Finset.card_erase_of_mem (by rw [RowStore.mem_held]; simp [held])]
    have top := form.seq_le i x held
    have bottom := form.seq_pos i x held
    refine ⟨fun j z h => ?_, fun j z h => ?_, fun j z h => ?_, fun j k z v apart h h' => ?_⟩
    · obtain ⟨y, _, beside, _, rfl⟩ := old h
      exact form.slot j y beside
    · obtain ⟨y, _, beside, differ, rfl⟩ := old h
      have := form.seq_pos j y beside
      dsimp only
      split <;> omega
    · obtain ⟨y, _, beside, differ, rfl⟩ := old h
      have := form.seq_le j y beside
      rw [card]
      dsimp only
      split <;> omega
    · obtain ⟨y, _, beside, differ, rfl⟩ := old h
      obtain ⟨y', _, beside', differ', rfl⟩ := old h'
      obtain ⟨row, seq⟩ := form.apart j k y y' apart beside beside'
      refine ⟨row, ?_⟩
      dsimp only
      split <;> split <;> omega

end Form

/-! ### Finding a row -/

theorem RowStore.find_eq_some {u : RowStore} {row : Word16} {i : Fin 4} (found : u.find row = some i) :
    ∃ x, u.slots[i] = some x ∧ x.row = row := by
  have holds := List.find?_some found
  split at holds
  next x held => exact ⟨x, held, by simpa using holds⟩
  · cases holds

theorem RowStore.find_eq_none {u : RowStore} {row : Word16} :
    u.find row = none ↔ ∀ (i : Fin 4) (x : Slot), u.slots[i] = some x → x.row ≠ row := by
  simp only [RowStore.find, List.find?_eq_none]
  refine ⟨fun missing i x held same => missing i (mem_allSlots i) (by simp [held, same]), fun missing i _ => ?_⟩
  cases held : u.slots[i] with
  | none => simp
  | some x => simpa using missing i x held

theorem RowStore.stateOf_of_find {u : RowStore} {row : Word16} {i : Fin 4} {x : Slot} (found : u.find row = some i)
    (held : u.slots[i] = some x) : u.stateOf row = some x.state := by
  simp only [RowStore.stateOf, found, held, Option.map_some]

theorem RowStore.stateOf_eq_some {u : RowStore} {row : Word16} {k : SlotState} :
    u.stateOf row = some k ↔ ∃ i x, u.find row = some i ∧ u.slots[i] = some x ∧ x.state = k := by
  constructor
  · intro state
    cases found : u.find row with
    | none => simp [RowStore.stateOf, found] at state
    | some i =>
      obtain ⟨x, held, _⟩ := RowStore.find_eq_some found
      rw [RowStore.stateOf_of_find found held] at state
      exact ⟨i, x, rfl, held, Option.some.inj state⟩
  · rintro ⟨i, x, found, held, rfl⟩
    exact RowStore.stateOf_of_find found held

theorem RowStore.stateOf_eq_none {u : RowStore} {row : Word16} :
    u.stateOf row = none ↔ ∀ (i : Fin 4) (x : Slot), u.slots[i] = some x → x.row ≠ row := by
  rw [← RowStore.find_eq_none]
  cases found : u.find row with
  | none => simp [RowStore.stateOf, found]
  | some i =>
    obtain ⟨x, held, _⟩ := RowStore.find_eq_some found
    simp [RowStore.stateOf_of_find found held]

/-- A slot held after one has been freed was held before, for the same row and in the same state. -/
theorem RowStore.free_slot_kept {u : RowStore} {i j : Fin 4} {z : Slot} (h : (u.free i).slots[j] = some z) :
    ∃ y, u.slots[j] = some y ∧ y.row = z.row ∧ y.state = z.state := by
  cases held : u.slots[i] with
  | none => exact ⟨z, by simpa only [RowStore.free, held] using h, rfl, rfl⟩
  | some x =>
    rw [u.free_slot i j x held] at h
    split at h
    · cases h
    · obtain ⟨y, beside, rfl⟩ := Option.map_eq_some_iff.1 h
      refine ⟨y, beside, ?_⟩
      split <;> exact ⟨rfl, rfl⟩

theorem evictable_may {s : State} {i : Fin 4} (chosen : evictable s.course s.rows = some i) : MayEvict s i := by
  rw [evictable_eq_argmin] at chosen
  exact (mem_evictionCandidates_iff s i).1 (List.argmin_mem chosen)

/-! ### Taking a SPAN and a CLOSE -/

/-- The rows of the station are in form for its bed. -/
def State.StoreInForm (s : State) : Prop := s.rows.InForm s.width

theorem storeInForm_of_rows {s t : State} (rows : t.rows = s.rows) (mode : t.ctl.mode = s.ctl.mode)
    (before : s.StoreInForm) : t.StoreInForm := by
  unfold State.StoreInForm
  rwa [rows, State.width_of_mode mode]

/-- A held slot changed but for its row and arrival number, whatever follows beside the rows. -/
theorem storeInForm_put {s : State} {i : Fin 4} {x y : Slot} (before : s.StoreInForm)
    (held : s.rows.slots[i] = some x) (row : y.row = x.row) (seq : y.seq = x.seq) (inForm : y.inForm s.width) :
    (s.setRows (s.rows.put i (some y))).StoreInForm :=
  RowStore.InForm.put before held row seq inForm

theorem storeInForm_damageSlot {s : State} {i : Fin 4} {x : Slot} (before : s.StoreInForm)
    (held : s.rows.slots[i] = some x) : (s.damageSlot i x).StoreInForm :=
  storeInForm_put before held (y := { x with state := .damaged }) rfl rfl (RowStore.InForm.slot before i x held)

/-- A SPAN on the bed names a range of its needles. -/
theorem lastOnBed_bounds {b : SpanBody} {w : Nat} (on : ¬ OffBed b w) :
    b.first.toNat ≤ lastOnBed b w ∧ lastOnBed b w < w := by
  unfold OffBed at on
  have positive : b.length.toNat ≠ 0 := fun h => on (.inr (BitVec.eq_of_toNat_eq h))
  unfold lastOnBed
  omega

theorem insertSpan_of_full {s : State} {body : SpanBody} {x : Slot} (i : Fin 4) (on : ¬ OffBed body s.width)
    (full : ¬ paintCount body.first.toNat (lastOnBed body s.width) (SpanBody.paintColour body) x.spans ≤
      Config.spanMax) : s.insertSpan i x body = s.damageSlot i x :=
  (if_neg fun off => on (off.imp_right BitVec.toNat_inj.1)).trans (if_neg full)

theorem paintColour_le (b : SpanBody) : SpanBody.paintColour b ≤ 15 :=
  Nat.le_of_lt_succ (Nat.mod_lt _ (by decide))

theorem storeInForm_insertSpan {s : State} {i : Fin 4} {x : Slot} (body : SpanBody) (before : s.StoreInForm)
    (held : s.rows.slots[i] = some x) : (s.insertSpan i x body).StoreInForm := by
  by_cases off : OffBed body s.width
  · rw [insertSpan_of_offBed i x off]
    exact before
  · obtain ⟨ordered, inside⟩ := lastOnBed_bounds off
    obtain ⟨canon, count⟩ := RowStore.InForm.slot before i x held
    by_cases fits : paintCount body.first.toNat (lastOnBed body s.width) (SpanBody.paintColour body) x.spans ≤
        Config.spanMax
    · rw [insertSpan_of_fits i off fits]
      exact storeInForm_put before held rfl rfl
        ⟨(paintedRangeTakesTheColour _ _ _ _ _ canon ordered inside (paintColour_le body)).2.2 fits, count⟩
    · rw [insertSpan_of_full i off fits]
      exact storeInForm_damageSlot before held

/-- A slot with one more SPAN counted. -/
def Slot.counted (x : Slot) : Slot := { x with count := satAdd x.count 1 }

theorem State.spanInto_of_filling {s : State} {i : Fin 4} {x : Slot} (held : s.rows.slots[i] = some x)
    (filling : x.state = .filling) (body : SpanBody) :
    s.spanInto i body = (s.setRows (s.rows.put i (some x.counted))).insertSpan i x.counted body := by
  simp only [State.spanInto, held, filling, if_true, Slot.counted]

theorem State.spanInto_of_late {s : State} {i : Fin 4} {x : Slot} (held : s.rows.slots[i] = some x)
    (late : x.state ≠ .filling) (body : SpanBody) : s.spanInto i body = s.bump .lateSpans := by
  simp only [State.spanInto, held, late, if_false]

theorem storeInForm_spanInto {s : State} (i : Fin 4) (body : SpanBody) (before : s.StoreInForm) :
    (s.spanInto i body).StoreInForm := by
  cases held : s.rows.slots[i] with
  | none => simpa only [State.spanInto, held] using before
  | some x =>
    by_cases filling : x.state = .filling
    · rw [State.spanInto_of_filling held filling]
      have counted : (s.setRows (s.rows.put i (some x.counted))).StoreInForm :=
        storeInForm_put before held rfl rfl ⟨(RowStore.InForm.slot before i x held).1, Nat.min_le_right _ _⟩
      exact storeInForm_insertSpan body counted ((RowStore.put_slot _ _ _ _).trans (if_pos rfl))
    · rw [State.spanInto_of_late held filling]
      exact before

theorem storeInForm_takeSpan {s : State} (body : SpanBody) (before : s.StoreInForm) :
    (s.takeSpan body).StoreInForm := by
  unfold State.takeSpan
  split
  · exact storeInForm_spanInto _ _ before
  next missing =>
    have new := RowStore.find_eq_none.1 missing
    split
    next i found =>
      have free := ((RowStore.find?_free_eq_some_iff s.rows i).1 found).1
      exact storeInForm_spanInto _ _ (show (s.setRows _).StoreInForm from RowStore.InForm.takeSlot before free new)
    · split
      next i found =>
        refine storeInForm_spanInto _ _ (show RowStore.InForm _ _ from ?_)
        obtain ⟨x, held⟩ := Option.ne_none_iff_exists'.1 (evictable_may found).held
        refine (RowStore.InForm.free before i).takeSlot (by simp [s.rows.free_slot i i x held]) fun j z h => ?_
        obtain ⟨y, beside, row, _⟩ := RowStore.free_slot_kept h
        exact row ▸ new j y beside
      · exact before

theorem storeInForm_takeClose {s : State} (body : CloseBody) (before : s.StoreInForm) :
    (s.takeClose body).StoreInForm := by
  unfold State.takeClose
  split
  · exact before
  · split
    · exact before
    next x held =>
      split_ifs
      · exact storeInForm_put before held (y := { x with state := .closed }) rfl rfl
          (RowStore.InForm.slot before _ x held)
      · exact storeInForm_damageSlot before held
      · exact before

/-! ### The end of a course -/

/-- Step 6 of a course end frees one slot after another (R37). -/
theorem foldl_free_keeps {I : RowStore → Prop} (p : Fin 4 → Bool) (free : ∀ u i, p i = true → I u → I (u.free i))
    (l : List (Fin 4)) (u : RowStore) (before : I u) : I (l.foldl (fun v i => if p i then v.free i else v) u) := by
  induction l generalizing u with
  | nil => exact before
  | cons i l ih =>
    rw [List.foldl_cons]
    refine ih _ ?_
    split
    next freed => exact free u i freed before
    · exact before

theorem RowStore.movePin_slots (u : RowStore) (row : Word16) (clean : Bool) : (u.movePin row clean).slots = u.slots := by
  unfold RowStore.movePin
  split
  · split <;> rfl
  · rfl

theorem storeInForm_releaseRows (s : State) (row : Word16) (clean : Bool) (before : s.StoreInForm) :
    (s.releaseRows row clean).StoreInForm := by
  have moved : (s.rows.movePin row clean).InForm s.width := by
    have slots := s.rows.movePin_slots row clean
    obtain ⟨slot, pos, le, apart⟩ : s.rows.InForm s.width := before
    constructor
    all_goals simpa only [RowStore.held, slots]
  exact foldl_free_keeps (I := fun u => u.InForm s.width) _ (fun u i _ form => form.free i) _ _ moved

/-! ### The step -/

theorem rowsInForm_reads : Reads State.RowsInForm [.rowSlots, .mode] := by
  constructor
  intro s t same before
  have slots : t.rows.slots = s.rows.slots := same .rowSlots (by decide)
  have mode : t.ctl.mode = s.ctl.mode := same .mode (by decide)
  unfold State.RowsInForm RowStore.freeCount at *
  rwa [slots, mode, State.width_of_mode mode]

/-- Out of SETUP only the store's own form counts. -/
theorem rowsInForm_of_store {s : State} (mode : s.ctl.mode ≠ .setup) (form : s.StoreInForm) : s.RowsInForm :=
  (rowsInForm_iff s).2 ⟨fun cleared => absurd cleared mode, form⟩

theorem rowsInForm_of_empty {s : State} (empty : ∀ i : Fin 4, s.rows.slots[i] = none) : s.RowsInForm :=
  (rowsInForm_iff s).2 ⟨fun _ => empty, RowStore.inForm_of_empty empty _⟩

theorem rowsInForm_releaseRows (s : State) (row : Word16) (clean : Bool) (before : s.RowsInForm) :
    (s.releaseRows row clean).RowsInForm := by
  obtain ⟨cleared, form⟩ := (rowsInForm_iff s).1 before
  refine (rowsInForm_iff _).2 ⟨fun mode => ?_, storeInForm_releaseRows s row clean form⟩
  refine foldl_free_keeps (I := fun u => ∀ i : Fin 4, u.slots[i] = none) _ (fun u i _ empty => ?_) _ _ fun i => ?_
  · have kept : u.free i = u := by simp only [RowStore.free, empty]
    rwa [kept]
  · rw [s.rows.movePin_slots]
    exact cleared mode i

theorem rowsInForm_endCourse (s : State) (a : Active) (before : s.RowsInForm) : (s.endCourse a).RowsInForm :=
  rowsInForm_reads.endCourse (fun s => rowsInForm_reads.frame (closeOutcomes_frame s))
    (fun s => rowsInForm_reads.frame (detachFire_frame s)) (fun s n => rowsInForm_reads.frame (offer_frame s n))
    rowsInForm_releaseRows (fun s => rowsInForm_reads.frame (releasePages_frame s)) (by decide) s a before

theorem rowsInForm_arrive (s : State) (n : Nat) : s.RowsInForm → (s.arrive n).RowsInForm :=
  rowsInForm_reads.frame (arrive_frame s n)

theorem rowsInForm_directionChange (s : State) (dir : Dir) : s.RowsInForm → (s.directionChange dir).RowsInForm :=
  rowsInForm_reads.directionChange rowsInForm_arrive (fun s a _ => rowsInForm_endCourse s a)
    (fun s dir _ => rowsInForm_reads.frame (startCourse_frame s dir)) (by decide) s dir

theorem rowsInForm_intoRun (s : State) (before : s.RowsInForm) : s.intoRun.RowsInForm := by
  obtain ⟨cleared, form⟩ := (rowsInForm_iff s).1 before
  have width : s.intoRun.width = s.width := by
    unfold State.width State.param
    rw [State.intoRun_setup?]
  refine (rowsInForm_iff _).2 ⟨fun mode => cleared ?_, ?_⟩
  · simp only [State.intoRun, State.setCtl_ctl] at mode
    cases before : s.ctl.mode <;> simp_all [Mode.referenced]
  · rw [width]
    exact form

theorem takeSpan_mode {s : State} (body : SpanBody) (mode : s.ctl.mode ≠ .setup) :
    (s.takeSpan body).ctl.mode ≠ .setup := by
  rwa [show (s.takeSpan body).ctl.mode = s.ctl.mode from (takeSpan_frame s body).get .mode]

theorem takeClose_mode {s : State} (body : CloseBody) (mode : s.ctl.mode ≠ .setup) :
    (s.takeClose body).ctl.mode ≠ .setup := by
  rwa [show (s.takeClose body).ctl.mode = s.ctl.mode from (takeClose_frame s body).get .mode]

theorem exec_rowsInForm {c : Instr} {s t : State} (touched : ∃ p ∈ [Part.rowSlots, .mode], p ∈ footprint c)
    (next : exec c s = .next t) (before : s.RowsInForm) : t.RowsInForm := by
  have store := ((rowsInForm_iff s.endMark).1 (rowsInForm_reads.frame (endMark_frame s) (by decide) before)).2
  cases c with
  | encoderEdge a b =>
    exact rowsInForm_reads.encoderEdge rowsInForm_arrive rowsInForm_directionChange (by decide) next before
  | referenceMark => exact rowsInForm_reads.referenceMark rowsInForm_arrive rowsInForm_intoRun (by decide) next before
  | span body =>
    obtain ⟨taken, rfl⟩ | elsewhere := exec_span_cases next
    · exact rowsInForm_of_store (takeSpan_mode body taken) (storeInForm_takeSpan body store)
    · exact rowsInForm_reads.frame elsewhere (by decide) before
  | close body =>
    obtain ⟨taken, rfl⟩ | elsewhere := exec_close_cases next
    · exact rowsInForm_of_store (takeClose_mode body taken)
        (storeInForm_takeClose body store)
    · exact rowsInForm_reads.frame elsewhere (by decide) before
  | setup q b =>
    obtain ⟨r, cleared, _, _, rfl⟩ | elsewhere := exec_setup_cases next
    · exact rowsInForm_of_empty (((rowsInForm_iff s).1 before).1 cleared)
    · exact rowsInForm_reads.frame elsewhere (by decide) before
  | reset q =>
    obtain ⟨_, _, rfl⟩ | elsewhere := exec_reset_cases next
    · have slots : s.endMark.courseReset.rows.slots = Vector.replicate 4 none :=
        (clearedBlocks_courseReset_frame s.endMark).get .rowSlots
      exact rowsInForm_of_empty fun i => by simp [slots]
    · exact rowsInForm_reads.frame elsewhere (by decide) before
  | hardReset x a b rail =>
    obtain rfl := Host.Outcome.next.inj next
    exact rowsInForm_of_empty fun i => by simp [State.hardReset, State.afterReset]
  | _ => exact nomatch touches_of_mem touched

end Sys2Proof.Machine
end

section
/-! PROOF. The pinned slot and the slot of a row that is read clean stay CLOSED (R36, R51, R58). -/

namespace Sys2Proof.Machine

/-! ### What a SPAN and a CLOSE leave of the slots -/

/-- Beside FILLING slots, which keep their rows, nothing of the store has changed. -/
def OnlyFilling (u v : RowStore) : Prop :=
  ∀ j : Fin 4, v.slots[j] = u.slots[j] ∨
    ∃ x y, u.slots[j] = some x ∧ x.state = .filling ∧ v.slots[j] = some y ∧ y.row = x.row

theorem OnlyFilling.refl (u : RowStore) : OnlyFilling u u := fun _ => .inl rfl

theorem OnlyFilling.put {u : RowStore} {i : Fin 4} {x y : Slot} (held : u.slots[i] = some x)
    (filling : x.state = .filling) (row : y.row = x.row) : OnlyFilling u (u.put i (some y)) := by
  intro j
  rw [RowStore.put_slot]
  split
  next here => exact .inr ⟨x, y, here ▸ held, filling, rfl, row⟩
  · exact .inl rfl

theorem OnlyFilling.then {u v w : RowStore} (h : OnlyFilling u v) (k : OnlyFilling v w) : OnlyFilling u w := by
  intro j
  obtain same | ⟨x, y, held, filling, after, row⟩ := h j
  · exact same ▸ k j
  · obtain same | ⟨y', z, held', _, after', row'⟩ := k j
    · exact .inr ⟨x, y, held, filling, same.trans after, row⟩
    · obtain rfl := Option.some.inj (after.symm.trans held')
      exact .inr ⟨x, z, held, filling, after', row'.trans row⟩

/-- A slot that is not FILLING stays as it was. -/
theorem OnlyFilling.settled {u v : RowStore} (h : OnlyFilling u v) {j : Fin 4} {x : Slot} (held : u.slots[j] = some x)
    (settled : x.state ≠ .filling) : v.slots[j] = some x := by
  obtain same | ⟨x', _, held', filling, _⟩ := h j
  · exact same.trans held
  · exact absurd (Option.some.inj (held.symm.trans held') ▸ filling) settled

theorem OnlyFilling.row {u v : RowStore} (h : OnlyFilling u v) {j : Fin 4} {y : Slot} (held : v.slots[j] = some y) :
    ∃ x, u.slots[j] = some x ∧ x.row = y.row := by
  obtain same | ⟨x, y', held', _, after, row⟩ := h j
  · exact ⟨y, same.symm.trans held, rfl⟩
  · exact ⟨x, held', Option.some.inj (held.symm.trans after) ▸ row.symm⟩

theorem onlyFilling_insertSpan {s : State} {i : Fin 4} {x : Slot} (body : SpanBody)
    (held : s.rows.slots[i] = some x) (filling : x.state = .filling) :
    OnlyFilling s.rows (s.insertSpan i x body).rows := by
  unfold State.insertSpan
  dsimp only
  split_ifs
  · exact .refl _
  · exact .put held filling rfl
  · exact .put held filling (y := { x with state := .damaged }) rfl

theorem onlyFilling_spanInto (s : State) (i : Fin 4) (body : SpanBody) :
    OnlyFilling s.rows (s.spanInto i body).rows := by
  cases held : s.rows.slots[i] with
  | none => simpa only [State.spanInto, held] using .refl _
  | some x =>
    by_cases filling : x.state = .filling
    · rw [State.spanInto_of_filling held filling]
      have here : (s.setRows (s.rows.put i (some x.counted))).rows.slots[i] = some x.counted :=
        (RowStore.put_slot s.rows i i (some x.counted)).trans (if_pos rfl)
      have put : OnlyFilling s.rows (s.rows.put i (some x.counted)) := .put held filling rfl
      exact put.then (onlyFilling_insertSpan body here filling)
    · rw [State.spanInto_of_late held filling]
      exact .refl _

theorem onlyFilling_takeClose (s : State) (body : CloseBody) : OnlyFilling s.rows (s.takeClose body).rows := by
  unfold State.takeClose
  split
  · exact .refl _
  · split
    · exact .refl _
    next x held =>
      split_ifs with filling
      · exact .put held filling (y := { x with state := .closed }) rfl
      · exact .put held filling (y := { x with state := .damaged }) rfl
      · exact .refl _

/-- The store in which a SPAN finds its slot: the one before, or one where a slot was taken for it (R26, R27). -/
def SpanPlaced (s : State) (row : Word16) (u : RowStore) : Prop :=
  u = s.rows ∨ s.rows.find row = none ∧
    ((∃ k : Fin 4, s.rows.slots[k] = none ∧ u = s.rows.takeSlot k row) ∨
     ∃ k, MayEvict s k ∧ u = (s.rows.free k).takeSlot k row)

theorem onlyFilling_takeSpan (s : State) (body : SpanBody) :
    ∃ u, SpanPlaced s body.row u ∧ OnlyFilling u (s.takeSpan body).rows := by
  unfold State.takeSpan
  split
  next i _ => exact ⟨s.rows, .inl rfl, onlyFilling_spanInto s i body⟩
  next missing =>
    split
    next k found =>
      have free := ((RowStore.find?_free_eq_some_iff s.rows k).1 found).1
      exact ⟨_, .inr ⟨missing, .inl ⟨k, free, rfl⟩⟩,
        onlyFilling_spanInto (s.setRows (s.rows.takeSlot k body.row)) k body⟩
    · split
      next k found =>
        exact ⟨_, .inr ⟨missing, .inr ⟨k, evictable_may found, rfl⟩⟩, onlyFilling_spanInto
          ((s.setRows ((s.rows.free k).takeSlot k body.row)).bump .rowEvictions) k body⟩
      · exact ⟨s.rows, .inl rfl, .refl _⟩

/-- A SPAN leaves a slot that is neither FILLING nor may be evicted, but for its arrival number. -/
theorem takeSpan_slot {s : State} {body : SpanBody} {i : Fin 4} {x : Slot} (held : s.rows.slots[i] = some x)
    (settled : x.state ≠ .filling) (kept : ¬ MayEvict s i) :
    ∃ y, (s.takeSpan body).rows.slots[i] = some y ∧ y.row = x.row ∧ y.state = x.state := by
  obtain ⟨u, placed, only⟩ := onlyFilling_takeSpan s body
  obtain rfl | ⟨_, ⟨k, free, rfl⟩ | ⟨k, may, rfl⟩⟩ := placed
  · exact ⟨x, only.settled held settled, rfl, rfl⟩
  · have other : k ≠ i := fun same => by simp [← same, free] at held
    refine ⟨x, only.settled ?_ settled, rfl, rfl⟩
    rw [RowStore.takeSlot_slot, if_neg other, held]
  · have other : k ≠ i := fun same => kept (same ▸ may)
    obtain ⟨v, evicted⟩ := Option.ne_none_iff_exists'.1 may.held
    refine ⟨_, only.settled ((RowStore.takeSlot_slot _ _ _ _).trans (if_neg other |>.trans
      (RowStore.free_slot_ne evicted other.symm held))) settled, rfl, rfl⟩

/-- A SPAN for a row that has a slot gives no slot another row; one for a new row gives one slot that row. -/
theorem takeSpan_row {s : State} {body : SpanBody} {j : Fin 4} {y : Slot}
    (after : (s.takeSpan body).rows.slots[j] = some y) :
    (∃ x, s.rows.slots[j] = some x ∧ x.row = y.row) ∨ (s.rows.find body.row = none ∧ y.row = body.row) := by
  have taken {u : RowStore} {k : Fin 4} {z : Slot} (held : (u.takeSlot k body.row).slots[j] = some z) :
      z.row = body.row ∨ u.slots[j] = some z := by
    rw [RowStore.takeSlot_slot] at held
    split at held
    · exact .inl (Option.some.inj held ▸ rfl)
    · exact .inr held
  obtain ⟨u, placed, only⟩ := onlyFilling_takeSpan s body
  obtain ⟨z, held, row⟩ := only.row after
  obtain rfl | ⟨missing, ⟨k, free, rfl⟩ | ⟨k, may, rfl⟩⟩ := placed
  · exact .inl ⟨z, held, row⟩
  · obtain new | old := taken held
    · exact .inr ⟨missing, row ▸ new⟩
    · exact .inl ⟨z, old, row⟩
  · obtain new | old := taken held
    · exact .inr ⟨missing, row ▸ new⟩
    · obtain ⟨x, before, row', _⟩ := RowStore.free_slot_kept old
      exact .inl ⟨x, before, row'.trans row⟩

/-! ### The three parts of the invariant -/

/-- The pinned slot is CLOSED (R36). -/
def RowStore.PinClosed (u : RowStore) : Prop :=
  ∀ i : Fin 4, u.pinned = some i → ∃ x, u.slots[i] = some x ∧ x.state = .closed

/-- The idle context of a starved course has the role IDLE (R51). -/
def State.StarvedIdle (s : State) : Prop := ∀ a, s.course.active = some a → a.starved = true → a.order.role = .idle

/-- The slot of the ACTIVE row is CLOSED while the course reads it clean (R58). -/
def State.ReadClean (s : State) : Prop :=
  s.course.cleanRead = true → ∀ a, s.course.active = some a →
    a.starved = false ∧ s.rows.stateOf a.order.row = some .closed

theorem pinnedIsClosed_iff (s : State) : s.PinnedIsClosed ↔ s.rows.PinClosed ∧ s.StarvedIdle ∧ s.ReadClean := Iff.rfl

theorem pinnedIsClosed_reads : Reads State.PinnedIsClosed [.rowSlots, .rowPinned, .active, .cleanRead] := by
  constructor
  intro s t same before
  have slots : t.rows.slots = s.rows.slots := same .rowSlots (by decide)
  have pinned : t.rows.pinned = s.rows.pinned := same .rowPinned (by decide)
  have active : t.course.active = s.course.active := same .active (by decide)
  have clean : t.course.cleanRead = s.course.cleanRead := same .cleanRead (by decide)
  have rows : t.rows = s.rows := by
    cases hs : s.rows
    cases ht : t.rows
    simp_all
  unfold State.PinnedIsClosed
  rwa [rows, active, clean]

theorem RowStore.find_eq_some_iff {u : RowStore} {row : Word16} {i : Fin 4} :
    u.find row = some i ↔ (∃ x, u.slots[i] = some x ∧ x.row = row) ∧
      ∀ j < i, ∀ x, u.slots[j] = some x → x.row ≠ row := by
  rw [RowStore.find, allSlots_find?, Fin.find?_eq_some_iff]
  refine and_congr ?_ (forall₂_congr fun j _ => ?_)
  · cases u.slots[i] <;> simp
  · cases u.slots[j] <;> simp

/-- The state of a row stays when its slot does and no other slot comes to hold it. -/
theorem RowStore.stateOf_kept {u v : RowStore} {row : Word16} {k : SlotState} (before : u.stateOf row = some k)
    (slot : ∀ i x, u.find row = some i → u.slots[i] = some x → ∃ y, v.slots[i] = some y ∧ y.row = x.row ∧ y.state = x.state)
    (others : ∀ (j : Fin 4) (y : Slot), v.slots[j] = some y → y.row = row → ∃ x, u.slots[j] = some x ∧ x.row = row) :
    v.stateOf row = some k := by
  obtain ⟨i, x, found, held, rfl⟩ := RowStore.stateOf_eq_some.1 before
  obtain ⟨y, after, rowY, stateY⟩ := slot i x found held
  obtain ⟨⟨x', held', rowX⟩, lowest⟩ := RowStore.find_eq_some_iff.1 found
  obtain rfl := Option.some.inj (held.symm.trans held')
  refine RowStore.stateOf_eq_some.2 ⟨i, y, RowStore.find_eq_some_iff.2 ⟨⟨y, after, rowY.trans rowX⟩, ?_⟩, after, stateY⟩
  intro j below z beside row'
  obtain ⟨x', heldJ, rowJ⟩ := others j z beside row'
  exact lowest j below x' heldJ rowJ

/-! ### SPAN, CLOSE -/

/-- The contexts after a row may have become ready are those before, but for their status (R48). -/
theorem MayReady.active_of {s t : State} (h : MayReady s t) {b : Active} (active : t.course.active = some b) :
    ∃ a, s.course.active = some a ∧ b.order = a.order ∧ b.starved = a.starved := by
  obtain ⟨u, frame, rfl | ⟨row, rfl⟩⟩ := h
  · exact ⟨b, (show _ = _ from frame.get .active) ▸ active, rfl, rfl⟩
  · obtain ⟨a, before, rfl⟩ := Option.map_eq_some_iff.1 active
    refine ⟨a, (show _ = _ from frame.get .active) ▸ before, ?_⟩
    split <;> exact ⟨rfl, rfl⟩

/-- What may have made a row ready keeps the invariant when it leaves CLOSED slots that may not be evicted, and
gives no slot a row of another. -/
theorem pinnedIsClosed_of_mayReady {s t : State} (ready : MayReady s t) (pinned : t.rows.pinned = s.rows.pinned)
    (clean : t.course.cleanRead = s.course.cleanRead)
    (slot : ∀ (i : Fin 4) x, s.rows.slots[i] = some x → x.state = .closed → ¬ MayEvict s i →
      ∃ y, t.rows.slots[i] = some y ∧ y.row = x.row ∧ y.state = x.state)
    (row : ∀ (j : Fin 4) (y : Slot), t.rows.slots[j] = some y → s.rows.find y.row ≠ none →
      ∃ x, s.rows.slots[j] = some x ∧ x.row = y.row)
    (before : s.PinnedIsClosed) : t.PinnedIsClosed := by
  obtain ⟨pin, idle, read⟩ := before
  refine ⟨fun i chosen => ?_, fun b active starved => ?_, fun cleanT b active => ?_⟩
  · rw [pinned] at chosen
    obtain ⟨x, held, closed⟩ := pin i chosen
    obtain ⟨y, after, _, state⟩ := slot i x held closed fun may => may.unpinned chosen
    exact ⟨y, after, state.trans closed⟩
  · obtain ⟨a, was, order, same⟩ := ready.active_of active
    exact order ▸ idle a was (same ▸ starved)
  · obtain ⟨a, was, order, same⟩ := ready.active_of active
    obtain ⟨fed, state⟩ := read (clean ▸ cleanT) a was
    refine ⟨same.trans fed, order ▸ RowStore.stateOf_kept state (fun i x found held => ?_) fun j y after rowY => ?_⟩
    · obtain ⟨i', x', found', held', closed⟩ := RowStore.stateOf_eq_some.1 state
      obtain rfl := Option.some.inj (found.symm.trans found')
      obtain rfl := Option.some.inj (held.symm.trans held')
      obtain ⟨x', held', rowX⟩ := RowStore.find_eq_some found
      obtain rfl := Option.some.inj (held.symm.trans held')
      exact slot i x held closed fun may => may.unused ⟨x, held, .inr (.inr ⟨rfl, a, was, fed, rowX.symm⟩)⟩
    · obtain ⟨_, _, found, _⟩ := RowStore.stateOf_eq_some.1 state
      obtain ⟨x, held, same'⟩ := row j y after (by rw [rowY, found]; simp)
      exact ⟨x, held, same'.trans rowY⟩

theorem pinnedIsClosed_takeSpan (s : State) (body : SpanBody) (before : s.PinnedIsClosed) :
    (s.takeSpan body).PinnedIsClosed := by
  refine pinnedIsClosed_of_mayReady (mayReady_takeSpan s body) ((takeSpan_frame s body).get .rowPinned)
    ((takeSpan_frame s body).get .cleanRead) (fun i x held closed kept => ?_) (fun j y after found => ?_) before
  · exact takeSpan_slot held (by simp [closed]) kept
  · obtain old | ⟨missing, new⟩ := takeSpan_row after
    · exact old
    · exact absurd (new ▸ missing) found

theorem pinnedIsClosed_takeClose (s : State) (body : CloseBody) (before : s.PinnedIsClosed) :
    (s.takeClose body).PinnedIsClosed := by
  have only := onlyFilling_takeClose s body
  refine pinnedIsClosed_of_mayReady (mayReady_takeClose s body) ((takeClose_frame s body).get .rowPinned)
    ((takeClose_frame s body).get .cleanRead) (fun i x held closed _ => ?_) (fun j y after _ => only.row after) before
  exact ⟨x, only.settled held (by simp [closed]), rfl, rfl⟩

/-! ### The course -/

/-- The pin is moved to a CLOSED slot, and the slot it stands at is not freed (R36, R37). -/
theorem pinClosed_releaseRows {s : State} (row : Word16) (clean : Bool) (before : s.rows.PinClosed)
    (read : clean = true → ∀ i, s.rows.find row = some i → s.rows.stateOf row = some .closed) :
    (s.releaseRows row clean).rows.PinClosed := by
  have moved : (s.rows.movePin row clean).PinClosed := by
    unfold RowStore.movePin
    split
    next cleanRead =>
      split
      next i found =>
        intro j here
        obtain rfl := Option.some.inj here
        obtain ⟨i', x, found', held, closed⟩ := RowStore.stateOf_eq_some.1 (read cleanRead i found)
        obtain rfl := Option.some.inj (found.symm.trans found')
        exact ⟨x, held, closed⟩
      · exact before
    · exact before
  have kept := foldl_free_keeps
    (I := fun u => u.pinned = (s.rows.movePin row clean).pinned ∧ u.PinClosed)
    (fun i => (slotInUse s.course s.rows i true || s.rows.pinned == some i) &&
      !(slotInUse s.course (s.rows.movePin row clean) i false || (s.rows.movePin row clean).pinned == some i))
    (fun u i freed ⟨same, closed⟩ => ?_) allSlots _ ⟨rfl, moved⟩
  · exact kept.2
  · refine ⟨(u.free_pinned i).trans same, fun j here => ?_⟩
    rw [u.free_pinned] at here
    obtain ⟨x, held, state⟩ := closed j here
    have other : j ≠ i := by
      rintro rfl
      rw [same] at here
      simp [here] at freed
    cases gone : u.slots[i] with
    | none => exact ⟨x, by simpa only [RowStore.free, gone] using held, state⟩
    | some z => exact ⟨_, RowStore.free_slot_ne gone other held, state⟩

theorem State.retired_rows (s : State) : s.retired.rows = s.rows := rfl

theorem State.releasePages_rows (s : State) : s.releasePages.rows = s.rows := rfl

theorem State.releasedEnd_rows (s : State) (a : Active) : (s.releasedEnd a).rows =
    ((s.verdictEnd a).releaseRows a.order.row (s.verdictEnd a).course.cleanRead).rows := State.releasePages_rows _

/-- The row store of a course end is that of its release of rows (R36, R37). -/
theorem State.endCourse_rows (s : State) (a : Active) : (s.endCourse a).rows =
    ((s.verdictEnd a).releaseRows a.order.row (s.verdictEnd a).course.cleanRead).rows := by
  rw [State.endCourse_eq, State.retired_rows, State.releasedEnd_rows]

theorem pinnedIsClosed_endCourse {s : State} {a : Active} (running : s.course.active = some a)
    (before : s.PinnedIsClosed) : (s.endCourse a).PinnedIsClosed := by
  have judged : Frame (.history :: .float :: .headWaiting :: .headFire :: leaveParts ++ judgeParts) s (s.verdictEnd a) :=
    ((settledEnd_frame s).then (reportedEnd_frame s a)
      (n := .float :: .headWaiting :: .headFire :: leaveParts ++ judgeParts)).then (verdictEnd_frame s a)
  have verdict : (s.verdictEnd a).PinnedIsClosed := pinnedIsClosed_reads.frame judged (by decide) before
  have active : (s.verdictEnd a).course.active = some a := (show _ = _ from judged.get .active).trans running
  obtain ⟨pin, _, read⟩ := verdict
  have ended : (s.endCourse a).course.active = none := by
    rw [← State.ended_of_running running]
    exact s.ended_active
  refine (pinnedIsClosed_iff _).2 ⟨?_, by simp [State.StarvedIdle, ended], by simp [State.ReadClean, ended]⟩
  rw [State.endCourse_rows]
  exact pinClosed_releaseRows (s := s.verdictEnd a) _ _ pin fun clean i found => (read clean a active).2

theorem nextActive_starvedIdle (c : CourseCtl) (dir : Dir) (starved : (c.nextActive dir).starved = true) :
    (c.nextActive dir).order.role = .idle := by
  unfold CourseCtl.nextActive at *
  split
  · rfl
  next standby => simp [standby] at starved

theorem startCourse_cleanRead (s : State) (dir : Dir) : (s.startCourse dir).course.cleanRead = false := by
  rw [State.startCourse_eq, State.handContext_eq]
  refine ((prime_frame _).get .cleanRead).trans (((formCarrier_frame _ _).get .cleanRead).trans ?_)
  exact (listenPage_frame _ _).get .cleanRead

theorem pinnedIsClosed_startCourse (s : State) (dir : Dir) (before : s.PinnedIsClosed) :
    (s.startCourse dir).PinnedIsClosed := by
  have rows : (s.startCourse dir).rows = s.rows := (startCourse_frame s dir).same.rows_eq
  refine (pinnedIsClosed_iff _).2 ⟨rows ▸ before.1, fun a active starved => ?_, ?_⟩
  · rw [State.startCourse_active] at active
    obtain rfl := Option.some.inj active
    exact nextActive_starvedIdle _ _ starved
  · simp [State.ReadClean, startCourse_cleanRead]

theorem State.chooseRow_cleanRead (s : State) (a : Active) (clean : (s.chooseRow a).course.cleanRead = true) :
    s.rows.stateOf a.order.row = some .closed := by
  unfold State.chooseRow at clean
  dsimp only at clean
  split at clean
  · rw [show _ = _ from (setCourseFlag_frame _ _).get .cleanRead] at clean
    simpa using (Bool.and_eq_true_iff.1 clean).2
  · simpa using (Bool.and_eq_true_iff.1 clean).2

/-- The row choice of a course that reads a row, which is no idle context, keeps it (R57, R58). -/
theorem pinnedIsClosed_countArrival {s : State} {a : Active} (running : s.course.active = some a)
    (before : s.PinnedIsClosed) : (s.countArrival a).PinnedIsClosed := by
  unfold State.countArrival
  dsimp only
  split
  next reads =>
    obtain ⟨pin, idle, _⟩ := before
    rw [Bool.and_eq_true] at reads
    have frame := chooseRow_frame (s.setTally { s.course.tally with decided := s.course.tally.decided + 1 }) a
    have rows : ((s.setTally { s.course.tally with decided := s.course.tally.decided + 1 }).chooseRow a).rows = s.rows :=
      frame.same.rows_eq
    have active : ((s.setTally { s.course.tally with decided := s.course.tally.decided + 1 }).chooseRow a).course.active
        = some a := (frame.get .active).trans running
    refine ⟨rows ▸ pin, fun b now starved => ?_, fun clean b now => ?_⟩
    · exact idle b (running.trans (active.symm.trans now)) starved
    · obtain rfl := Option.some.inj (active.symm.trans now)
      have fed : a.starved = false := by
        by_contra starved
        simp [Active.readsRow, idle a running (by simpa using starved)] at reads
      have closed := State.chooseRow_cleanRead _ a clean
      exact ⟨fed, by rw [rows]; exact closed⟩
  · exact pinnedIsClosed_reads.frame (setTally_frame s _) (by decide) before

theorem pinnedIsClosed_arrive (s : State) (n : Nat) (before : s.PinnedIsClosed) : (s.arrive n).PinnedIsClosed := by
  have handOver (t : State) (a : Active) (k : Bool) (x : Action) (g : Bool) :
      t.PinnedIsClosed → (t.handOver a n k x g).PinnedIsClosed :=
    pinnedIsClosed_reads.frame (handOver_frame t a n k x g)
  have mark (t : State) (a : Active) (x : Action) : t.PinnedIsClosed → (t.markOwn a n x).PinnedIsClosed :=
    pinnedIsClosed_reads.frame (markOwn_frame t a n x)
  unfold State.arrive
  split
  · exact before
  next a running =>
    split
    · have counted := pinnedIsClosed_countArrival running before
      unfold State.arriveCounting
      dsimp only
      split
      · exact handOver _ _ _ _ _ (mark _ _ _ counted)
      · exact handOver _ _ _ _ _ (mark _ _ _ (pinnedIsClosed_reads.frame (setDec_float_frame _ _) (by decide) counted))
    · exact handOver _ _ _ _ _ before

theorem pinnedIsClosed_directionChange (s : State) (dir : Dir) :
    s.PinnedIsClosed → (s.directionChange dir).PinnedIsClosed :=
  pinnedIsClosed_reads.directionChange pinnedIsClosed_arrive (fun _ _ => pinnedIsClosed_endCourse)
    (fun s dir _ => pinnedIsClosed_startCourse s dir) (by decide) s dir

/-! ### The step -/

/-- With nothing pinned and no course ACTIVE there is nothing to keep. -/
theorem pinnedIsClosed_of_idle {s : State} (unpinned : s.rows.pinned = none) (idle : s.course.active = none) :
    s.PinnedIsClosed := by
  simp [State.PinnedIsClosed, unpinned, idle]

theorem exec_pinnedIsClosed {c : Instr} {s t : State}
    (touched : ∃ p ∈ [Part.rowSlots, .rowPinned, .active, .cleanRead], p ∈ footprint c)
    (next : exec c s = .next t) (before : s.PinnedIsClosed) : t.PinnedIsClosed := by
  have ended : s.endMark.PinnedIsClosed := pinnedIsClosed_reads.frame (endMark_frame s) (by decide) before
  cases c with
  | encoderEdge a b =>
    exact pinnedIsClosed_reads.encoderEdge pinnedIsClosed_arrive pinnedIsClosed_directionChange (by decide) next before
  | referenceMark =>
    exact pinnedIsClosed_reads.referenceMark pinnedIsClosed_arrive
      (fun s => pinnedIsClosed_reads.frame (intoRun_frame s)) (by decide) next before
  | span body =>
    obtain ⟨_, rfl⟩ | elsewhere := exec_span_cases next
    · exact pinnedIsClosed_takeSpan _ body ended
    · exact pinnedIsClosed_reads.frame elsewhere (by decide) before
  | close body =>
    obtain ⟨_, rfl⟩ | elsewhere := exec_close_cases next
    · exact pinnedIsClosed_takeClose _ body ended
    · exact pinnedIsClosed_reads.frame elsewhere (by decide) before
  | reset q =>
    obtain ⟨_, _, rfl⟩ | elsewhere := exec_reset_cases next
    · refine pinnedIsClosed_of_idle ?_ (by rw [State.courseReset_course]; rfl)
      exact (clearedBlocks_courseReset_frame s.endMark).get .rowPinned
    · exact pinnedIsClosed_reads.frame elsewhere (by decide) before
  | hardReset x a b rail =>
    obtain rfl := Host.Outcome.next.inj next
    exact pinnedIsClosed_of_idle rfl rfl
  | _ => exact nomatch touches_of_mem touched

/-- Settles O10, the two invariants each carried over the commands that touch what they read. -/
theorem stepKeepsTheRowStore : Obligations.StepKeepsTheRowStore := fun _ _ next =>
  ⟨rowsInForm_reads.step exec_rowsInForm (by decide) next, pinnedIsClosed_reads.step exec_pinnedIsClosed (by decide) next⟩

end Sys2Proof.Machine
end

section
/-! PROOF. The reset: its values (R20, R40, R64, R86, R99, R126, R147, R158, R181, R192), and that they meet every
invariant. -/

namespace Sys2Proof.Machine

/-- Settles O58, by reading each value off the state after the reset. -/
theorem hardResetGivesTheResetValues : Obligations.HardResetGivesTheResetValues := by
  intro x a b rail s
  refine ⟨s.hardReset x a b rail, rfl, rfl, rfl, fun i => ?_, ?_⟩
  · simp [State.hardReset, State.afterReset]
  · simp [State.hardReset, State.afterReset, State.carrier, State.count]

/-- The reset state has no count, no order, no entry and no page. -/
theorem withinLimits_reset : State.reset.WithinLimits := by
  simp [State.WithinLimits, State.count, State.reset, State.afterReset]

/-- Settles O14, invariant by invariant. -/
theorem resetMeetsEveryInvariant : Obligations.ResetMeetsEveryInvariant := by
  refine ⟨?position, ?accounted, ?list, withinLimits_reset, ?rows, ?pages, ?head, ?pin, ?rail, ?pinned, ?float,
    ?run, ?faults⟩
  case position => exact positionAgrees_hardReset State.reset 0 false false false
  case accounted => simp [State.Accounted, State.reset, State.afterReset]
  case list => simp [State.ListOrdered, State.reset, State.afterReset]
  case rows => exact rowsInForm_of_empty fun i => by simp [State.reset, State.afterReset]
  case pages => simp [State.PagesInForm, State.reset, State.afterReset]
  case head => simp [State.HeadAgrees, State.reset, State.afterReset]
  case pin => simp [State.PinAgrees, State.reset, State.afterReset]
  case rail =>
    have width : State.reset.width = 4096 := State.width_of_cleared rfl
    refine ⟨by omega, fun c x parked => ?_⟩
    simp [State.carrier, State.reset, State.afterReset] at parked
  case pinned => exact pinnedIsClosed_of_idle rfl rfl
  case float => simp [State.FloatBelowLimit, State.setup?, Mode.setup?, State.reset, State.afterReset]
  case run => simp [State.RunBelowLimit, State.reset, State.afterReset]
  case faults => simp [State.FaultsWithinLimit, State.setup?, Mode.setup?, State.reset, State.afterReset]

end Sys2Proof.Machine
end

section
/-! PROOF. The clears (R186), and what a pattern notice meets before its block (R25, R32, R55, R162, R177). -/

namespace Sys2Proof.Machine

/-! ### The clears -/

theorem exec_clearStop_of_addressed {q : BitVec 5} {s : State} (hears : s.hears = true)
    (mine : s.addressed q = true) : exec (.clearStop q) s = .next s.endMark.clearLatch :=
  congrArg Host.Outcome.next (State.ifAddressed_of_addressed hears mine _)

theorem exec_clearSticky_of_addressed {q : BitVec 5} {s : State} (hears : s.hears = true)
    (mine : s.addressed q = true) : exec (.clearSticky q) s = .next s.endMark.clearFlags :=
  congrArg Host.Outcome.next (State.ifAddressed_of_addressed hears mine _)

/-- A clear-sticky leaves the marks of the level causes that hold. -/
theorem State.isRecorded_clearFlags (s : State) (k : StopCause) :
    s.clearFlags.isRecorded k = (s.isRecorded k &&
      ((s.head.disabled && decide (.headDisabled = k)) || (s.head.railCause && decide (.railLow = k)) ||
        (s.line.guardCut && decide (.guardCut = k)))) := by
  rw [← getLsbD_levelCauses]
  exact BitVec.getLsbD_and

/-- Settles O59, the two clears by the level causes that hold. -/
theorem clearReleasesLatchAndFlags : Obligations.ClearReleasesLatchAndFlags := by
  intro q s hears mine
  refine ⟨⟨_, exec_clearStop_of_addressed hears mine, fun holds => ?_, fun free => ?_⟩,
    _, exec_clearSticky_of_addressed hears mine, ?frame, fun f => ?_, rfl, rfl, ?marks⟩
  · rw [State.clearLatch_of_held (s := s.endMark) holds]
    exact (endMark_frame s).same
  · exact ⟨(endMark_frame s).same.then (clearLatch_same _), by rw [State.clearLatch_of_free (s := s.endMark) free]; rfl⟩
  case frame => exact (endMark_frame s).same.then (clearFlags_same _)
  case marks =>
    have recorded (k : StopCause) := s.endMark.isRecorded_clearFlags k
    refine ⟨(recorded _).trans ?_, (recorded _).trans ?_, (recorded _).trans ?_, fun k head rail guard =>
      (recorded k).trans ?_⟩
    · simp [State.isRecorded, State.endMark]
    · simp [State.isRecorded, State.endMark]
    · simp [State.isRecorded, State.endMark]
    · simp [head.symm, rail.symm, guard.symm]
  · exact BitVec.getLsbD_zero

/-! ### The filter -/

theorem State.addressed_iff (s : State) (q : BitVec 5) :
    s.addressed q = true ↔ q.toNat = s.ctl.station.toNat ∨ q.toNat = 31 := by
  simp [State.addressed, Config.nodeNumber]

/-- A notice that is heard and meets its test (the station mask or the number), then the state filter. -/
theorem filtered_spec {s t : State} {mine : Bool} {f : State → State}
    (taken : t = if mine = true then s.endMark.filtered f else s.endMark) :
    (mine = false → SameExcept noticeParts s t) ∧
    (mine = true → s.ctl.mode = .setup →
      SameExcept (.counts :: noticeParts) s t ∧ CountsExcept [.earlyNotices] s t ∧
      t.count .earlyNotices = min (s.count .earlyNotices + 1) 65535) := by
  refine ⟨fun other => ?_, fun own cleared => ?_⟩
  · rw [taken, other]
    exact (endMark_frame s).same
  · obtain ⟨late, _⟩ | ⟨_, early⟩ := s.endMark.filtered_cases f
    · exact absurd cleared late
    · rw [if_pos own, early] at taken
      subst taken
      exact ⟨((endMark_frame s).then (bump_frame _ _)).same, CountsExcept.of_bump s.endMark _,
        State.count_bump s.endMark _ _⟩

/-- Settles O23: each of the four notices is heard, picked out and filtered in the same way. -/
theorem patternNoticesPassTheFilter : Obligations.PatternNoticesPassTheFilter := by
  refine ⟨fun q s => s.addressed_iff q, fun c s mine hears which => ?_⟩
  obtain ⟨x, rfl, rfl⟩ | ⟨x, rfl, rfl⟩ | ⟨q, x, rfl, rfl⟩ | ⟨q, x, rfl, rfl⟩ := which
  · exact ⟨_, rfl, filtered_spec (State.heard_of_hears hears _)⟩
  · exact ⟨_, rfl, filtered_spec (State.heard_of_hears hears _)⟩
  · exact ⟨_, rfl, filtered_spec (State.heard_of_hears hears _)⟩
  · exact ⟨_, rfl, filtered_spec (State.heard_of_hears hears _)⟩

end Sys2Proof.Machine
end

section
/-! PROOF. The receiver (R150, R151), clashes and foreign notices (R160, R161, R163). -/

namespace Sys2Proof.Machine

/-! ### The receiver -/

/-- A notice on the line changes nothing where it is not heard (R151). -/
theorem exec_of_deaf {c : Instr} {s : State} (onLine : onTheLine c = true) (deaf : s.hears = false) :
    exec c s = .next s := by
  have unheard (f : State → State) : (.next (s.heard f) : Host.Outcome State Fault Refusal) = .next s :=
    congrArg Host.Outcome.next (State.heard_of_deaf deaf f)
  cases c
  case span | close | order | backing | place | take | pick | park | claim | report | status | setup | reset |
    clearStop | clearSticky | queryPage0 | queryPage1 | queryPage2 | queryUnknownPage | lineError | symbolError |
    foreignNotice | addressClash => exact unheard _
  all_goals cases onLine

theorem State.deaf_iff (s : State) :
    s.hears = false ↔ s.line.receiver = .waitIdle ∨ s.line.receiver = .discarding := by
  unfold State.hears
  cases s.line.receiver <;> simp

/-- Settles O53, by the receiver's state at each event. -/
theorem receiverFollowsTheLine : Obligations.ReceiverFollowsTheLine := by
  refine ⟨fun c s onLine deaf => exec_of_deaf onLine (s.deaf_iff.2 deaf), fun s => ⟨s.hears_iff, ?idle, ?start, ?mark⟩⟩
  case idle =>
    obtain ⟨t, next, frame⟩ := execReceiverIdle_frame s
    refine ⟨t, next, fun quiet => ⟨frame.same, ?_⟩, fun busy => ?_⟩
    · simp only [execReceiverIdle] at next
      obtain rfl := Host.Outcome.next.inj next
      exact ⟨rfl, rfl⟩
    · simp only [execReceiverIdle, busy] at next
      exact (Host.Outcome.next.inj next).symm
  case start =>
    obtain ⟨t, next, frame⟩ := execStartMark_frame s
    refine ⟨t, next, fun idle => ⟨frame.same, ?_⟩, fun busy => ?_⟩
    · simp only [execStartMark, idle] at next
      obtain rfl := Host.Outcome.next.inj next
      exact ⟨rfl, rfl⟩
    · simp only [execStartMark] at next
      exact (Host.Outcome.next.inj next).symm
  case mark =>
    refine ⟨(endMark_frame s).same, rfl, fun receiving => ?_, fun other => ?_⟩
    · simp [State.endMark, receiving]
    · cases receiver : s.line.receiver <;> simp_all [State.endMark]

/-! ### Clashes -/

theorem clashed_clash (s : State) : Clashed s s.endMark.clash := by
  refine ⟨((endMark_frame s).then (clash_frame _)).same, ?_, ?_, ?_, ?_, rfl⟩
  · exact (State.isSticky_setSticky s.endMark .addressClash .addressClash).trans (by simp)
  · exact StickyExcept.of_setSticky s.endMark .addressClash
  · exact (State.isRecorded_raise (s.endMark.setSticky .addressClash) .addressClash .addressClash).trans (by simp)
  · intro c other
    refine (State.isRecorded_raise (s.endMark.setSticky .addressClash) .addressClash c).trans ?_
    rw [decide_eq_false fun same => other (by simp [← same]), Bool.or_false]
    rfl

/-- A peer's notice that bears the own number (R160, log 9). -/
theorem fromPeer_clashed {s : State} {q : StationNo} (hears : s.hears = true) (own : q = s.ctl.station)
    (f : State → State) : Clashed s (s.fromPeer q f) := by
  have clash : s.fromPeer q f = s.endMark.clash := (State.heard_of_hears hears _).trans (if_pos own)
  exact clash ▸ clashed_clash s

/-- A peer's notice that is only heard (R163). -/
theorem fromPeer_ignored {s : State} {q : StationNo} (hears : s.hears = true) (other : q ≠ s.ctl.station) :
    SameExcept noticeParts s (s.fromPeer q fun t => t) := by
  rw [State.fromPeer_of_hears hears other]
  exact (endMark_frame s).same

/-! ### Foreign notices -/

theorem isForeign_iff (kind sender : BitVec 5) : isForeign kind sender = true ↔
    (kind ∉ stationKinds ∧ kind ∉ nodeKinds) ∨ (kind ∈ nodeKinds ∧ sender.toNat ≠ 31) ∨
      (kind ∈ stationKinds ∧ 16 ≤ sender.toNat) := by
  have number : sender = 31 ↔ sender.toNat = 31 := by rw [← BitVec.toNat_inj]; rfl
  have apart : kind ∈ nodeKinds → kind ∉ stationKinds := by
    revert kind
    decide
  unfold isForeign
  split_ifs with node station
  · simp only [node, apart node, bne_iff_ne, ne_eq, number, not_true_eq_false, and_false, true_and, false_and,
      false_or, or_false]
  · simp [node, station]
  · simp [node, station]

theorem State.isSticky_countForeign (s : State) (kind : BitVec 5) (f : StickyFlag) :
    (s.countForeign kind).isSticky f = (s.isSticky f || (decide (kind ∉ stationKinds) && decide (.unsupported = f))) := by
  unfold State.countForeign
  dsimp only
  split_ifs with station
  · simp [station]
    rfl
  · rw [State.isSticky_setSticky]
    simp [station]
    rfl

theorem State.counts_countForeign (s : State) (kind : BitVec 5) :
    (s.countForeign kind).counts = (s.bump .foreignNotices).counts := by
  unfold State.countForeign
  dsimp only
  split_ifs <;> rfl

theorem exec_foreignNotice_of_own {kind sender : BitVec 5} {s : State} (hears : s.hears = true)
    (own : sender.toNat = s.ctl.station.toNat) : exec (.foreignNotice kind sender) s = .next s.endMark.clash :=
  congrArg Host.Outcome.next ((State.heard_of_hears hears _).trans (if_pos own))

theorem exec_foreignNotice_of_foreign {kind sender : BitVec 5} {s : State} (hears : s.hears = true)
    (other : sender.toNat ≠ s.ctl.station.toNat) (foreign : isForeign kind sender = true) :
    exec (.foreignNotice kind sender) s = .next (s.endMark.countForeign kind) :=
  congrArg Host.Outcome.next ((State.heard_of_hears hears _).trans ((if_neg other).trans (if_pos foreign)))

/-- Settles O52, by the place of the clash test before the others. -/
theorem clashAndForeignNotices : Obligations.ClashAndForeignNotices := by
  intro kind sender q x y s hears
  refine ⟨fun other foreign => ?foreign, ?clash, fun own => ?own, ?report, ?status, fun pass k n b => ?peers⟩
  case foreign =>
    refine ⟨_, exec_foreignNotice_of_foreign hears other ((isForeign_iff kind sender).2 foreign),
      ((endMark_frame s).then (countForeign_frame _ kind)).same, fun j others => ?_, ?_, fun f others => ?_,
      fun station => ?_, fun unknown => ?_⟩
    · exact (congrArg (·[j.idx]) (s.endMark.counts_countForeign kind)).trans (CountsExcept.of_bump s.endMark _ j others)
    · exact (congrArg (·[Counter.foreignNotices.idx]) (s.endMark.counts_countForeign kind)).trans
        (State.count_bump s.endMark _ _)
    · have differs : .unsupported ≠ f := fun same => others (by simp [same])
      rw [State.isSticky_countForeign, decide_eq_false differs, Bool.and_false, Bool.or_false]
      rfl
    · rw [State.isSticky_countForeign, decide_eq_false (p := kind ∉ stationKinds) (not_not.2 station),
        Bool.false_and, Bool.or_false]
      rfl
    · rw [State.isSticky_countForeign, decide_eq_true (p := kind ∉ stationKinds) unknown]
      simp
  case clash => exact ⟨_, congrArg Host.Outcome.next (State.heard_of_hears hears _), clashed_clash s⟩
  case own => exact ⟨_, exec_foreignNotice_of_own hears own, clashed_clash s⟩
  case report => exact ⟨_, rfl, fun own => fromPeer_clashed hears own _, fromPeer_ignored hears⟩
  case status => exact ⟨_, rfl, fun own => fromPeer_clashed hears own _, fromPeer_ignored hears⟩
  case peers =>
    exact ⟨⟨_, rfl, fromPeer_clashed hears rfl _⟩, ⟨_, rfl, fromPeer_clashed hears rfl _⟩,
      ⟨_, rfl, fromPeer_clashed hears rfl _⟩, ⟨_, rfl, fromPeer_clashed hears rfl _⟩⟩

end Sys2Proof.Machine
end

section
/-! PROOF. A transmission (R135, R150, R154, R155, R157) and the guard (R164, R165). -/

namespace Sys2Proof.Machine

/-! ### The start and the ends of a transmission -/

theorem exec_transmitStart_of_ready {s : State} {n : Notice} {l : List Notice} (list : s.line.list = n :: l)
    (ready : s.mayStart = true) : exec .transmitStart s = .next (s.setLine { s.line with
      sending := some n, receiver := .receiving, idleTime := 0, driven := 0 }) := by
  simp only [exec, execTransmitStart, list, ready, if_true]

theorem exec_transmitStart_of_unready {s : State} (unready : s.line.list = [] ∨ s.mayStart = false) :
    exec .transmitStart s = .next s := by
  simp only [exec, execTransmitStart]
  split
  · rfl
  next n l list =>
    obtain empty | busy := unready
    · simp [list] at empty
    · simp [busy]

theorem exec_noticeSent_of_sending {s : State} {n : Notice} (sending : s.line.sending = some n) :
    exec .noticeSent s = .next ((s.setLine (s.line.drop n)).endMark.toldSent n) := by
  simp only [exec, execNoticeSent, sending]

theorem exec_arbitrationLost_of_sending {s : State} {n : Notice} (sending : s.line.sending = some n) :
    exec .arbitrationLost s = .next s.standBack := by
  simp only [exec, execArbitrationLost, sending]

theorem exec_sendCollision_of_sending {s : State} {n : Notice} (sending : s.line.sending = some n) :
    exec .sendCollision s = .next (s.standBack.bump .sendCollisions) := by
  simp only [exec, execSendCollision, sending]

theorem exec_ends_of_quiet {s : State} (quiet : s.line.sending = none) :
    exec .noticeSent s = .next s ∧ exec .arbitrationLost s = .next s ∧ exec .sendCollision s = .next s := by
  simp only [exec, execNoticeSent, execArbitrationLost, execSendCollision, quiet, and_self]

theorem State.toldSent_line (s : State) (n : Notice) : (s.toldSent n).line = s.line := by
  cases n <;> rfl

/-- A send that is told to the carrier unit makes what was QUEUED MADE, and leaves the rest (R135). -/
theorem takeSent_state (x : TakeState) :
    (if x = .denied then TakeState.denied else .made) = if x = .queued then .made else x := by
  cases x <;> rfl

theorem takeSent_standbyTake {s : State} {y : Take} (c : Fin 16) (p : Word16) (standby : s.carr.standbyTake = some y) :
    (s.takeSent c p).carr.standbyTake =
      some (if y.carrier = c ∧ y.pass = p ∧ y.state = .queued then { y with state := .made } else y) := by
  have told : (s.takeSent c p).carr.standbyTake = s.carr.standbyTake.map fun t =>
      if t.carrier = c ∧ t.pass = p then { t with state := if t.state = .denied then .denied else .made } else t := rfl
  rw [told, standby, Option.map_some, takeSent_state]
  obtain ⟨carrier, pass, state⟩ := y
  by_cases its : carrier = c ∧ pass = p
  · by_cases queued : state = .queued <;> simp [its, queued]
  · rw [if_neg its, if_neg fun all => its ⟨all.1, all.2.1⟩]

theorem takeSent_course {s : State} {cc : CourseCarrier} (c : Fin 16) (p : Word16) (course : s.carr.course = some cc) :
    (s.takeSent c p).carr.course =
      some (if cc.carrier = c ∧ cc.pass = p ∧ cc.take = some .queued then { cc with take := some .made } else cc) := by
  have told : (s.takeSent c p).carr.course = s.carr.course.map fun x =>
      if x.carrier = c ∧ x.pass = p then
        { x with take := x.take.map fun t => if t = .denied then .denied else .made } else x := rfl
  rw [told, course, Option.map_some]
  simp only [takeSent_state]
  by_cases its : cc.carrier = c ∧ cc.pass = p
  · obtain ⟨carrier, source, pass, travel, first, last, take, expected, state⟩ := cc
    cases take with
    | none => simp_all
    | some x => by_cases queued : x = .queued <;> simp_all
  · rw [if_neg its, if_neg fun all => its ⟨all.1, all.2.1⟩]

/-- Settles O54, by what is being sent. -/
theorem transmissionKeepsOrSendsItsNotice : Obligations.TransmissionKeepsOrSendsItsNotice := by
  intro n l s
  refine ⟨fun list quiet ok idle time => ?start, fun unready => ?unready, fun sending => ⟨?sent, ?lost, ?collision⟩,
    exec_ends_of_quiet⟩
  case start =>
    have next := exec_transmitStart_of_ready list (s.mayStart_iff.2 ⟨quiet, ok, idle, time⟩)
    exact ⟨_, next, exec_same next, rfl, rfl⟩
  case unready =>
    refine exec_transmitStart_of_unready (unready.imp_right fun busy => ?_)
    rw [← Bool.not_eq_true, State.mayStart_iff]
    rintro ⟨quiet, ok, idle, time⟩
    obtain some | cut | other | short := busy
    · exact some quiet
    · rw [ok] at cut
      cases cut
    · exact other idle
    · omega
  case sent =>
    refine ⟨_, exec_noticeSent_of_sending sending, by rw [State.toldSent_line]; rfl, by rw [State.toldSent_line]; rfl,
      fun other => ?_, fun p c own => ?_⟩
    · have untold (t : State) : t.toldSent n = t := by
        cases n
        case take p c => exact absurd rfl (other p c)
        all_goals rfl
      rw [untold]
      exact ((drop_frame s n).then (endMark_frame _)).same
    · subst own
      refine ⟨?_, fun d hd => ?_, fun y => takeSent_standbyTake (s := (s.setLine _).endMark) c p,
        fun cc => takeSent_course (s := (s.setLine _).endMark) c p⟩
      · exact (State.carrier_setCarrier (s.setLine _).endMark c c _).trans (if_pos rfl)
      · exact (State.carrier_setCarrier (s.setLine _).endMark c d _).trans (if_neg hd.symm)
  case lost =>
    exact ⟨_, exec_arbitrationLost_of_sending sending, (standBack_frame s).same, rfl⟩
  case collision =>
    exact ⟨_, exec_sendCollision_of_sending sending, ((standBack_frame s).then (bump_frame _ _)).same, rfl,
      CountsExcept.of_bump s.standBack _, State.count_bump s.standBack _ _⟩

/-! ### The guard -/

theorem exec_guardReturn_of_quiet {s : State} (cut : s.line.guardCut = true) (quiet : s.line.sending = none) :
    exec .guardReturn s = .next (s.setLine { s.line with guardCut := false, off := Config.guardRelease }) := by
  simp only [exec, execGuardReturn, cut, quiet, and_self, if_true]

theorem exec_guardReturn_of_ok {s : State} (ok : s.line.guardCut = false) : exec .guardReturn s = .next s := by
  simp [exec, execGuardReturn, ok]

theorem toldLost_line_frame (s : State) (n : Notice) :
    Frame [.standbyTake, .courseCarrier, .courseFlags, .causes, .latch] s (s.toldLost n) :=
  (toldLost_frame s n).mono

/-- The loss of a TAKE speaks of the takes, the course and the pin before it. -/
theorem TakeLost.of_before {l : List Part} {s u t : State} {c : Fin 16} {pass : Word16} (before : Frame l s u)
    (lost : TakeLost u t c pass)
    (hl : ∀ p ∈ [Part.pin, .standbyTake, .courseCarrier, .courseFlags], p ∉ l := by decide) : TakeLost s t c pass := by
  have pin : u.carr.pin = s.carr.pin := before.get .pin (hl _ (by decide))
  have standby : u.carr.standbyTake = s.carr.standbyTake := before.get .standbyTake (hl _ (by decide))
  have course : u.carr.course = s.carr.course := before.get .courseCarrier (hl _ (by decide))
  have flags : u.course.flags = s.course.flags := before.get .courseFlags (hl _ (by decide))
  simpa only [TakeLost, Flagged, State.isCourseFlag, pin, standby, course, flags] using lost

/-- Settles O55, by what is being sent and whether the guard has cut. -/
theorem guardCutsAndReturns : Obligations.GuardCutsAndReturns := by
  intro n s
  refine ⟨exec_guardCut_of_quiet, fun sending => ?cut, fun cut quiet => ?back, exec_guardReturn_of_ok⟩
  case back =>
    have next := exec_guardReturn_of_quiet cut quiet
    exact ⟨_, next, exec_same next, rfl⟩
  case cut =>
    have told := toldLost_frame (s.guardLost n) n
    have line : ((s.guardLost n).toldLost n).line = (s.guardLost n).line := told.same.line_eq
    refine ⟨_, exec_guardCut_of_sending sending, by rw [line]; rfl, by rw [line]; rfl, by rw [line]; rfl,
      told.rises.latch rfl, told.rises.causes _ ?_, fun k other => ?_, ?_, by rw [line]; rfl, fun p c own => ?_⟩
    · exact (State.isRecorded_raise _ .guardCut .guardCut).trans (by simp)
    · exact (told.count_eq k).trans (CountsExcept.of_bump (s.setLine _) _ k other)
    · exact (told.count_eq _).trans (State.count_bump (s.setLine _) _ _)
    · subst own
      exact TakeLost.of_before (guardLost_frame s _) (takeLost_loseTake _ c p)

end Sys2Proof.Machine
end

section
/-! PROOF. Arbitration (R149, R154): two heads go alike until the first bit in which they differ. -/

namespace Sys2Proof.Machine

/-- The two halves of each bit's cell (R149). -/
def cellsOf (bits : List Bool) : List Half := bits.flatMap fun b => [(cellOf b).1, (cellOf b).2]

theorem length_cellsOf (bits : List Bool) : (cellsOf bits).length = 2 * bits.length := by
  simp only [cellsOf, List.length_flatMap, List.length_cons, List.length_nil, List.map_const', List.sum_replicate]
  exact Nat.mul_comm _ _

theorem halvesOf_eq (common rest : List Bool) (b : Bool) : halvesOf (common ++ b :: rest) =
    (.dominant :: .dominant :: cellsOf common) ++
      ((cellOf b).1 :: (cellOf b).2 :: (cellsOf rest ++ ([.recessive, .recessive] : List Half))) := by
  simp [halvesOf, cellsOf, startMark, endMark]

/-- Over what both send alike neither stands back. -/
theorem standsBackAt_append (p x y : List Half) :
    standsBackAt (p ++ x) (p ++ y) = (standsBackAt x y).map (· + p.length) := by
  induction p with
  | nil => simp
  | cons h p ih =>
    have alike : ¬ (h = .recessive ∧ wired h h = .dominant) := by cases h <;> decide
    simp only [List.cons_append, standsBackAt, alike, if_false, ih, Option.map_map, List.length_cons]
    exact congrArg (fun f => Option.map f _) (funext fun n => Nat.add_assoc n p.length 1)

/-- Settles O50: the head with the 1 sends recessive first where the other drives dominant, and the other meets a
dominant half only in the next half. -/
theorem lowestHeadWinsTheLine : Obligations.LowestHeadWinsTheLine := by
  intro common low high
  have together : (Half.dominant :: .dominant :: cellsOf common).length = 2 + 2 * common.length := by
    rw [List.length_cons, List.length_cons, length_cellsOf]
    omega
  refine ⟨2 + 2 * common.length, ?_, rfl, fun j back => ?_⟩
  · rw [halvesOf_eq, halvesOf_eq, standsBackAt_append, together]
    simp [standsBackAt, cellOf, wired]
  · rw [halvesOf_eq, halvesOf_eq, standsBackAt_append, together] at back
    simp only [standsBackAt, cellOf, wired] at back
    simp at back
    omega

end Sys2Proof.Machine
end

section
/-! PROOF. Damaged notices and line health (R151, R159, R166, R167), and the rail filter (R120, R121, R122). -/

namespace Sys2Proof.Machine

/-! ### A damaged notice -/

/-- A damaged notice has been counted by its check, and nothing else but the receiver has changed (R159). -/
structure CountedDamaged (s u : State) (k : Counter) : Prop where
  same : Frame (.counts :: noticeParts) s u
  counted : u.count k = min (s.count k + 1) 65535
  others : CountsExcept [k] s u

theorem countedDamaged_bump {s u : State} (k : Counter) (heard : Frame noticeParts s u) :
    CountedDamaged s (u.bump k) k := by
  refine ⟨heard.then (bump_frame _ _), (State.count_bump u k k).trans ?_, fun j other => ?_⟩
  · rw [if_pos rfl, heard.count_eq k]
  · exact (CountsExcept.of_bump u k j other).trans (heard.count_eq j)

/-- The window's count after one more line error (R166). -/
def State.errorNoted (s : State) : State :=
  s.setLine { s.line with windowErrors := min (s.line.windowErrors + 1) 255 }

theorem errorNoted_frame (s : State) : Frame [.windowErrors] s s.errorNoted :=
  .of (.of_blanked rfl)

theorem State.noteError_of_cleared {s : State} (cleared : s.setup? = none) : s.noteError = s := by
  simp only [State.noteError, cleared]

section Noted
variable {s : State} {r : SetupRec} (taken : s.setup? = some r)
include taken

theorem State.noteError_of_turn
    (turns : r.errorThreshold ≤ min (s.line.windowErrors + 1) 255 ∧ s.line.degraded = false) :
    s.noteError = s.errorNoted.degrade := by
  simp only [State.noteError, taken]
  exact if_pos turns

theorem State.noteError_of_steady
    (steady : ¬ (r.errorThreshold ≤ min (s.line.windowErrors + 1) 255 ∧ s.line.degraded = false)) :
    s.noteError = s.errorNoted := by
  simp only [State.noteError, taken]
  exact if_neg steady

end Noted

/-- Setting a course flag sets that one (R54). -/
theorem State.isCourseFlag_setCourseFlag (s : State) (f g : CourseFlag) :
    (s.setCourseFlag f).isCourseFlag g = (s.isCourseFlag g || decide (f = g)) := by
  unfold State.setCourseFlag
  split
  next already =>
    by_cases same : f = g
    · rw [← same, already, Bool.true_or]
    · simp [same]
  · have flags : ((s.setCourse { s.course with flags := setBit s.course.flags f.idx }).raiseFor f).course.flags =
        setBit s.course.flags f.idx := (raiseFor_frame _ f).get .courseFlags
    simp only [State.isCourseFlag, flags, getLsbD_setBit _ _ _ f.idx_lt, CourseFlag.idx_inj]

theorem State.degrade_line (s : State) : s.degrade.line = { s.line with degraded := true, cleanWindows := 0 } := by
  unfold State.degrade
  dsimp only
  split
  · exact (setCourseFlag_frame _ _).same.line_eq
  · rfl

theorem State.count_degrade (s : State) (k : Counter) :
    s.degrade.count k = if Counter.degradations = k then min (s.count k + 1) 65535 else s.count k := by
  have bumped := State.count_bump (s.setLine { s.line with degraded := true, cleanWindows := 0 }) .degradations k
  unfold State.degrade
  dsimp only
  split
  · exact ((setCourseFlag_frame _ .lineDegraded).count_eq k).trans bumped
  · exact bumped

theorem State.degrade_flag {s : State} (running : s.running = true) : s.degrade.isCourseFlag .lineDegraded = true := by
  have marked : s.degrade =
      ((s.setLine { s.line with degraded := true, cleanWindows := 0 }).bump .degradations).setCourseFlag .lineDegraded :=
    if_pos running
  rw [marked, State.isCourseFlag_setCourseFlag]
  simp

theorem CountedDamaged.noteError {s u : State} {k : Counter} (damaged : CountedDamaged s u k)
    (other : k ≠ .degradations) :
    u.noteError.count k = min (s.count k + 1) 65535 ∧ CountsExcept [k, .degradations] s u.noteError := by
  obtain ⟨_, counted, others⟩ := damaged
  have steady (j : Counter) (differs : j ≠ .degradations) : u.noteError.count j = u.count j := by
    cases taken : u.setup? with
    | none => rw [State.noteError_of_cleared taken]
    | some r =>
      by_cases turns : r.errorThreshold ≤ min (u.line.windowErrors + 1) 255 ∧ u.line.degraded = false
      · rw [State.noteError_of_turn taken turns, State.count_degrade, if_neg differs.symm]
        rfl
      · rw [State.noteError_of_steady taken turns]
        rfl
  refine ⟨(steady k other).trans counted, fun j beside => ?_⟩
  simp only [List.mem_cons, List.not_mem_nil, or_false, not_or] at beside
  exact (steady j beside.2).trans (others j (by simpa using beside.1))

/-- The window of the health monitor over a damaged notice counted by `k`, which may turn the line DEGRADED
(R166). -/
def WindowNoted (s t : State) (k : Counter) (r : SetupRec) : Prop :=
  t.line.windowErrors = min (s.line.windowErrors + 1) 255 ∧
  (let turns := decide (r.errorThreshold ≤ min (s.line.windowErrors + 1) 255) && !s.line.degraded
   t.line.degraded = (s.line.degraded || turns) ∧
   (turns = true → t.line.cleanWindows = 0 ∧
     t.count .degradations = min (s.count .degradations + 1) 65535 ∧
     (s.running = true → t.isCourseFlag .lineDegraded = true)) ∧
   (turns = false → SameExcept (([.windowErrors, .counts] : List Part) ++ noticeParts) s t ∧ CountsExcept [k] s t))

theorem CountedDamaged.window {s u : State} {k : Counter} (damaged : CountedDamaged s u k) (other : k ≠ .degradations)
    {r : SetupRec} (taken : s.setup? = some r) : WindowNoted s u.noteError k r := by
  obtain ⟨frame, _, others⟩ := damaged
  have errors : u.line.windowErrors = s.line.windowErrors := frame.get .windowErrors
  have health : u.line.degraded = s.line.degraded := frame.get .health
  have record : u.setup? = some r := (setup?_of_mode (frame.get .mode)).trans taken
  by_cases turns : r.errorThreshold ≤ min (s.line.windowErrors + 1) 255 ∧ s.line.degraded = false
  · rw [State.noteError_of_turn record (by rwa [errors, health])]
    refine ⟨by rw [State.degrade_line]; exact congrArg (fun n => min (n + 1) 255) errors, ?_, fun _ => ⟨?_, ?_,
      fun running => ?_⟩, fun steady => ?_⟩
    · rw [State.degrade_line]
      simp [turns]
    · rw [State.degrade_line]
    · rw [State.count_degrade, if_pos rfl]
      exact congrArg (fun n => min (n + 1) 65535) (others .degradations (by simpa using other.symm))
    · refine State.degrade_flag ?_
      exact (congrArg Option.isSome (show _ = _ from frame.get .active)).trans running
    · simp [turns] at steady
  · rw [State.noteError_of_steady record (by rwa [errors, health])]
    refine ⟨congrArg (fun n => min (n + 1) 255) errors, ?_, fun turned => ?_, fun _ =>
      ⟨(frame.then (errorNoted_frame u)).same, others⟩⟩
    · refine health.trans ?_
      rcases Bool.eq_false_or_eq_true s.line.degraded with degraded | good
      · simp [degraded]
      · simpa [good] using turns
    · exact absurd turned (by simpa using turns)

theorem exec_lineError_of_hears {kind : LineErrorKind} {s : State} (hears : s.hears = true) :
    exec (.lineError kind) s = .next (s.endMark.bump (lineErrorCounter kind)).noteError :=
  congrArg Host.Outcome.next (State.heard_of_hears hears _)

/-- The receiver after the end mark of a notice with a symbol error (R151). -/
def State.discarding (s : State) : State := s.endMark.setLine { s.endMark.line with receiver := .discarding }

theorem discarding_frame (s : State) : Frame noticeParts s s.discarding :=
  (endMark_frame s).then (setLine_receiver_frame s.endMark .discarding s.endMark.line.idleTime)

theorem exec_symbolError_of_hears {s : State} (hears : s.hears = true) :
    exec .symbolError s = .next (s.discarding.bump .symbolErrors).noteError :=
  congrArg Host.Outcome.next (State.heard_of_hears hears _)

theorem State.noteError_receiver (s : State) : s.noteError.line.receiver = s.line.receiver :=
  (noteError_frame s).get .receiver

/-- A damaged notice at its check's counter and in its window, whatever kind it is. -/
theorem damaged_spec {s u : State} {k : Counter} (damaged : CountedDamaged s u k) (other : k ≠ .degradations) :
    u.noteError.count k = min (s.count k + 1) 65535 ∧ CountsExcept [k, .degradations] s u.noteError ∧
    (s.ctl.mode = .setup → SameExcept (.counts :: noticeParts) s u.noteError ∧ CountsExcept [k] s u.noteError) ∧
    ∀ r, s.setup? = some r → WindowNoted s u.noteError k r := by
  obtain ⟨counted, others⟩ := damaged.noteError other
  refine ⟨counted, others, fun cleared => ?_, fun r => damaged.window other⟩
  · have none : u.setup? = none :=
      (setup?_of_mode (damaged.same.get .mode)).trans (by simp [State.setup?, cleared, Mode.setup?])
    rw [State.noteError_of_cleared none]
    exact ⟨damaged.same.same, damaged.others⟩

theorem lineErrorCounter_ne (kind : LineErrorKind) : lineErrorCounter kind ≠ .degradations := by
  cases kind <;> decide

/-- Settles O51: a line error by its check, a symbol error, and the end of a window. -/
theorem lineHealthFollowsItsWindows : Obligations.LineHealthFollowsItsWindows := by
  refine ⟨fun c k s hears which => ?_, fun s r taken bound => ?_⟩
  · have error (kind : LineErrorKind) (k : Counter) (counter : lineErrorCounter kind = k) :=
      damaged_spec (countedDamaged_bump k (endMark_frame s)) (counter ▸ lineErrorCounter_ne kind)
    have checked (kind : LineErrorKind) := exec_lineError_of_hears (kind := kind) hears
    obtain ⟨rfl, rfl⟩ | ⟨rfl, rfl⟩ | ⟨rfl, rfl⟩ | ⟨rfl, rfl⟩ | ⟨rfl, rfl⟩ := which
    case inr.inr.inr.inr =>
      obtain ⟨counted, others, rest⟩ := damaged_spec (countedDamaged_bump .symbolErrors (discarding_frame s)) (by decide)
      exact ⟨_, exec_symbolError_of_hears hears, counted, others, fun _ => State.noteError_receiver _, rest⟩
    all_goals
      obtain ⟨counted, others, rest⟩ := error _ _ rfl
      exact ⟨_, checked _, counted, others, nofun, rest⟩
  · have next : exec .lineWindowEnd s = .next (s.setLine s.line.endWindow) := by
      simp only [exec, execLineWindowEnd, taken]
    refine ⟨_, next, exec_same next, rfl, fun errors => ?_, fun clean => ?_⟩
    · simp [Line.endWindow, errors, Config.cleanMax]
    · simp [Line.endWindow, clean, Config.cleanMax]

/-! ### The rail -/

/-- The rail state and its cause after the filter's time has passed (R121, R122). -/
def State.railSettled (s : State) (good cause : Bool) : State :=
  s.setHead { s.head with railHeld := Config.railFilterTime, railGood := good, railCause := cause }

section Expiry
variable {s : State}

theorem exec_railFilterExpiry_of_same (same : s.head.railLevel = s.head.railGood) :
    exec .railFilterExpiry s = .next (s.setHead { s.head with railHeld := Config.railFilterTime }) := by
  exact if_pos same

theorem exec_railFilterExpiry_of_good (high : s.head.railLevel = true) (low : s.head.railGood = false) :
    exec .railFilterExpiry s = .next (s.railSettled true false) := by
  have differs : s.head.railLevel ≠ s.head.railGood := by simp [high, low]
  exact (if_neg differs).trans (if_pos high)

theorem exec_railFilterExpiry_of_low (low : s.head.railLevel = false) (high : s.head.railGood = true) :
    exec .railFilterExpiry s = .next (((s.railSettled false true).raise .railLow).bump .railDrops) := by
  have differs : s.head.railLevel ≠ s.head.railGood := by simp [high, low]
  exact (if_neg differs).trans (if_neg (by simp [low]))

end Expiry

/-- Settles O41, by the level at the filter's expiry against the rail state. -/
theorem railFilterSettlesTheRail : Obligations.RailFilterSettlesTheRail := by
  intro level s
  constructor
  · obtain ⟨t, next, frame⟩ := execRailInputChange_frame level s
    refine ⟨t, next, frame.same, ?_⟩
    simp only [execRailInputChange] at next
    split at next
    next same =>
      obtain rfl := Host.Outcome.next.inj next
      exact ⟨same.symm, fun differs => absurd same differs⟩
    · obtain rfl := Host.Outcome.next.inj next
      exact ⟨rfl, fun _ => rfl⟩
  · have settled (good cause : Bool) : Frame [.railGood, .railHeld, .railCause] s (s.railSettled good cause) :=
      .of (.of_blanked rfl)
    obtain same | ⟨high, low⟩ | ⟨low, high⟩ : s.head.railLevel = s.head.railGood ∨
        (s.head.railLevel = true ∧ s.head.railGood = false) ∨ (s.head.railLevel = false ∧ s.head.railGood = true) := by
      cases s.head.railLevel <;> cases s.head.railGood <;> simp
    · refine ⟨_, exec_railFilterExpiry_of_same same, same.symm, fun _ => ?_, fun high low => ?_, fun low high => ?_⟩
      · exact .of_blanked rfl
      · exact absurd same (by simp [high, low])
      · exact absurd same (by simp [high, low])
    · refine ⟨_, exec_railFilterExpiry_of_good high low, high.symm, fun same => absurd same (by simp [high, low]),
        fun _ _ => ⟨(settled true false).same, rfl⟩, fun fell => absurd fell (by simp [high])⟩
    · have fallen := settled false true
      refine ⟨_, exec_railFilterExpiry_of_low low high, low.symm, fun same => absurd same (by simp [high, low]),
        fun rose => absurd rose (by simp [low]), fun _ _ => ⟨?_, rfl, rfl, ?_, fun c other => ?_, ?_, ?_⟩⟩
      · exact ((fallen.then (raise_frame _ _) (n := [.railGood, .railHeld, .railCause, .causes, .latch])).then
          (bump_frame _ _)).same
      · exact (State.isRecorded_raise _ .railLow .railLow).trans (by simp)
      · have differs : .railLow ≠ c := fun same => other (by simp [same])
        exact (State.isRecorded_raise _ .railLow c).trans (by rw [decide_eq_false differs, Bool.or_false]; rfl)
      · exact CountsExcept.of_bump ((s.railSettled false true).raise .railLow) _
      · exact State.count_bump ((s.railSettled false true).raise .railLow) _ _

end Sys2Proof.Machine
end

section
/-! PROOF. A course reset, block by block (R20, R40, R63, R86, R99, R125, R146, R158, R182). -/

namespace Sys2Proof.Machine

theorem exec_reset_of_addressed {q : BitVec 5} {s : State} (hears : s.hears = true) (mine : s.addressed q = true) :
    exec (.reset q) s = .next s.endMark.courseReset :=
  congrArg Host.Outcome.next (State.ifAddressed_of_addressed hears mine _)

section ResetPin
variable {s : State}

theorem State.resetPin_of_released (released : s.carr.pin = .released) : s.resetPin = s := by
  simp only [State.resetPin, released]

/-- A carrier on the pin or being engaged is released silently, its PARK alone in an empty list (R146). -/
theorem State.resetPin_of_held {c : Fin 16} {p : Word16} (empty : s.line.list = [])
    (held : s.carr.pin = .engaged c p ∨ ∃ d o, s.carr.pin = .engaging c p d o) :
    s.resetPin.carr.pin = .releasing c p s.fireTime true ∧ s.resetPin.line.list = [.park p c none] := by
  have placed (x : Pin) := (s.setPin x).offer_room (.park p c none) (by simp [State.setPin, empty])
  obtain held | ⟨d, o, held⟩ := held <;>
  · simp only [State.resetPin, held, placed]
    exact ⟨rfl, by simp [State.setPin, empty, joinList]⟩

theorem State.resetPin_of_releasing {c : Fin 16} {p : Word16} {d : Nat} {o : Bool} (empty : s.line.list = [])
    (releasing : s.carr.pin = .releasing c p d o) :
    s.resetPin.carr.pin = .releasing c p d true ∧ s.resetPin.line.list = [.park p c none] := by
  have placed := (s.setPin (.releasing c p d true)).offer_room (.park p c none) (by simp [State.setPin, empty])
  simp only [State.resetPin, releasing, placed]
  exact ⟨rfl, by simp [State.setPin, empty, joinList]⟩

end ResetPin

/-- The station before the pin of a course reset: no records, takes or course carrier, and an empty list. -/
def State.clearedCarriers (s : State) : State :=
  s.clearedBlocks.setCarr { s.clearedBlocks.carr with
    table := Vector.replicate 16 ⟨.unknown, none⟩, standbyTake := none, course := none }

theorem clearedCarriers_courseReset_frame (s : State) :
    Frame [.pin, .transmitList, .posFrontier, .posRacking, .posIndices, .history] s.clearedCarriers s.courseReset :=
  ((resetPin_frame_of_empty s.clearedCarriers rfl).then (resetPosition_frame _)
    (n := [.pin, .transmitList, .posFrontier, .posRacking, .posIndices])).then (resetHistory_frame _)

theorem State.courseReset_pin (s : State) : s.courseReset.carr.pin = s.clearedCarriers.resetPin.carr.pin := rfl

theorem State.courseReset_list (s : State) : s.courseReset.line.list = s.clearedCarriers.resetPin.line.list := rfl

/-- Settles O57, each block's part read off its own reset. -/
theorem courseResetEmptiesTheStation : Obligations.CourseResetEmptiesTheStation := by
  intro q s
  cases mine : s.addressed q with
  | false =>
    exact ⟨_, rfl, fun _ => (ifAddressed_frame_of_elsewhere mine _).same, fun _ here => absurd here (by simp)⟩
  | true =>
    cases hears : s.hears with
    | false =>
      have deaf : exec (.reset q) s = .next s := exec_of_deaf rfl hears
      exact ⟨s, deaf, fun other => absurd other (by simp), fun heard => absurd heard (by simp)⟩
    | true =>
      have rest := clearedCarriers_courseReset_frame s.endMark
      have course := s.endMark.courseReset_course
      have rows := rest.same.rows_eq
      have dec := rest.same.dec_eq
      have claim := rest.same.claim_eq
      have head := rest.same.head_eq
      refine ⟨_, exec_reset_of_addressed hears mine, fun other => absurd other (by simp), fun _ _ => ?_⟩
      rw [course, rows, dec, claim, head, State.courseReset_pin, State.courseReset_list]
      refine ⟨rfl, rfl, rfl, rfl, rfl, rfl, rfl, rfl, rfl, fun i => ?slots, rfl, rfl, rfl, rfl, rfl, rfl, rfl, rfl, rfl,
        fun f firing => ?fire, fun c => ?records, rest.get .standbyTake, rest.get .courseCarrier,
        fun released => ?released, fun c p held => State.resetPin_of_held (s := s.endMark.clearedCarriers) rfl held,
        fun c p d o => State.resetPin_of_releasing (s := s.endMark.clearedCarriers) rfl, rfl, rfl, rfl, rfl⟩
      case slots => simp [State.clearedCarriers, State.clearedBlocks, State.resetRows, State.resetLine, State.resetHead,
        State.detachFire, State.resetClaims]
      case fire => exact congrArg (Option.map fun f : Fire => { f with needle := none }) firing
      case records =>
        exact (rest.carrier_eq c).trans (by simp [State.carrier, State.clearedCarriers])
      case released =>
        rw [State.resetPin_of_released (s := s.endMark.clearedCarriers) released]
        exact ⟨released, rfl⟩

end Sys2Proof.Machine
end

section
/-! PROOF. The backing table (R55, R56), the row choice (R54, R57, R58, R184), the float tie (R74) and the outcome list
at an arrival (R77, R78). -/

namespace Sys2Proof.Machine

/-! ### The backing table -/

theorem State.filtered_of_ready {s : State} (ready : s.ctl.mode ≠ .setup) (f : State → State) : s.filtered f = f s := by
  obtain ⟨_, passes⟩ | ⟨cleared, _⟩ := s.filtered_cases f
  · exact passes
  · exact absurd cleared ready

theorem exec_backing_of_accepted {q : BitVec 5} {b : BackingBody} {s : State} (hears : s.hears = true)
    (mine : s.addressed q = true) (ready : s.ctl.mode ≠ .setup) :
    exec (.backing q b) s = .next (s.endMark.takeBacking b) :=
  congrArg Host.Outcome.next ((State.ifAddressed_of_addressed hears mine _).trans
    (State.filtered_of_ready (s := s.endMark) ready _))

theorem lengthOk_iff (b : BackingBody) :
    BackingBody.lengthOk b = true ↔ 1 ≤ b.length.toNat ∧ b.length.toNat ≤ 32 := by
  simp [BackingBody.lengthOk]

theorem decodeBackingEntry_eq (x : BitVec 2) :
    decodeBackingEntry x = match x.toNat with | 1 => .tuck | 2 => .knit | _ => .miss := by
  revert x
  decide

/-- Entry `k` of the body is two of its bits (R174). -/
theorem backing_entry (b : BackingBody) (k : Nat) :
    BackingBody.entry b k = match (b.entries >>> (62 - 2 * k)).toNat % 4 with | 1 => .tuck | 2 => .knit | _ => .miss := by
  rw [BackingBody.entry, decodeBackingEntry_eq, BitVec.extractLsb'_toNat, BitVec.toNat_ushiftRight]

theorem setShadow_frame (s : State) (l : Option (List Action)) :
    Frame [.backingShadow] s (s.setCourse { s.course with shadow := l }) :=
  .of (.of_blanked rfl)

/-- Settles O28: the load by the length, and its application by the shadow. -/
theorem backingIsTakenAndAppliedAtTheNextStart : Obligations.BackingIsTakenAndAppliedAtTheNextStart := by
  refine ⟨fun q b s hears mine ready => ⟨_, exec_backing_of_accepted hears mine ready, fun low high => ?_, fun bad => ?_⟩,
    fun s a => ⟨rfl, (loadBacking_frame s a).same.mono, fun l pending => ?_, fun none => ?_⟩⟩
  · have taken : s.endMark.takeBacking b =
        s.endMark.setCourse { s.endMark.course with shadow := some (BackingBody.table b) } :=
      if_pos ((lengthOk_iff b).2 ⟨low, high⟩)
    rw [taken]
    refine ⟨((endMark_frame s).then (setShadow_frame _ _)).same, _, rfl, by simp [BackingBody.table], fun k inside => ?_⟩
    simp only [BackingBody.table, List.getElem?_map, List.getElem?_range inside, Option.map_some, backing_entry] <;> rfl
  · have refused : s.endMark.takeBacking b = s.endMark.setSticky .backingRefused :=
      if_neg fun ok => by have := (lengthOk_iff b).1 ok; omega
    rw [refused]
    exact ⟨((endMark_frame s).then (setSticky_frame _ _)).same, (State.isSticky_setSticky _ _ _).trans (by simp),
      StickyExcept.of_setSticky s.endMark _⟩
  · simp [State.loadBacking, pending]
  · simp [State.loadBacking, none]

/-! ### The row choice -/

/-- The row source chosen, before its course flag (R57, R58). -/
def State.rowChosen (s : State) (choice : RowChoice) (clean : Bool) : State :=
  s.setCourse { s.course with choice := some choice, cleanRead := clean }

theorem rowChosen_frame (s : State) (choice : RowChoice) (clean : Bool) :
    Frame [.rowChoice, .cleanRead] s (s.rowChosen choice clean) :=
  .of (.of_blanked rfl)

/-- What a row choice with a course flag comes to. -/
theorem rowChosen_flagged (s : State) (choice : RowChoice) {f : CourseFlag} {c : StopCause} (cause : f.cause = some c) :
    let t := (s.rowChosen choice false).setCourseFlag f
    t.course.choice = some choice ∧ t.course.cleanRead = false ∧ Flagged s t f c ∧ FlagsExcept [f] s t := by
  have frame := setCourseFlag_frame (s.rowChosen choice false) f
  refine ⟨frame.get .rowChoice, frame.get .cleanRead, flagged_setCourseFlag (s.rowChosen choice false) cause,
    fun g other => ?_⟩
  rw [State.isCourseFlag_setCourseFlag, decide_eq_false fun same => other (by simp [← same]), Bool.or_false]
  rfl

theorem RowStore.heldChoice_eq (u : RowStore) :
    u.heldChoice = if u.pinned = none then .nothing else .pinned := by
  cases pinned : u.pinned <;> simp [RowStore.heldChoice, pinned]

/-- A row choice that is not of a CLOSED own row sets its course flag (R57). -/
theorem State.chooseRow_of_flag {s : State} {a : Active} {r : SetupRec} (taken : s.setup? = some r) {x : RowChoice}
    {f : CourseFlag} (unclean : s.rows.stateOf a.order.row ≠ some .closed)
    (chosen : rowChoiceOf a.status (s.rows.stateOf a.order.row) r.rowPolicy s.rows = (x, some f)) :
    s.chooseRow a = (s.rowChosen x false).setCourseFlag f := by
  have notClean : (s.rows.stateOf a.order.row == some .closed) = false := beq_eq_false_iff_ne.2 unclean
  simp only [State.chooseRow, State.param_of_setup taken, chosen, notClean, Bool.and_false]
  rfl

theorem State.chooseRow_of_clean {s : State} {a : Active} (primed : a.status = .primed)
    (closed : s.rows.stateOf a.order.row = some .closed) : s.chooseRow a = s.rowChosen .own true := by
  simp only [State.chooseRow, rowChoiceOf, primed, closed]
  rfl

/-- Settles O29, by the row status and the slot's state. -/
theorem rowChoiceFollowsTheTable : Obligations.RowChoiceFollowsTheTable := by
  intro s a r taken
  rw [← s.rows.heldChoice_eq]
  refine ⟨(chooseRow_frame s a).same.mono, fun primed closed => ?_, fun primed damaged => ?_, fun waits filling => ?_,
    fun waits free => ?_⟩
  · rw [State.chooseRow_of_clean primed closed]
    exact ⟨rfl, rfl, rfl⟩
  · rw [State.chooseRow_of_flag taken (by simp [damaged])
      (x := if r.rowPolicy = .use then .own else s.rows.heldChoice) (f := .rowDamaged)
      (by rw [primed, damaged]; cases r.rowPolicy <;> rfl)]
    exact rowChosen_flagged s _ rfl
  · rw [State.chooseRow_of_flag taken (by simp [filling])
      (x := if r.rowPolicy = .use then .own else s.rows.heldChoice) (f := .rowLate)
      (by rw [waits, filling]; cases r.rowPolicy <;> rfl)]
    exact rowChosen_flagged s _ rfl
  · rw [State.chooseRow_of_flag taken (by simp [free])
      (x := if r.rowPolicy = .use then .nothing else s.rows.heldChoice) (f := .rowLate)
      (by rw [waits, free]; cases r.rowPolicy <;> rfl)]
    exact rowChosen_flagged s _ rfl

/-! ### The float tie -/

theorem Active.readsRow_iff (a : Active) : a.readsRow = true ↔ a.order.role = .pattern ∨ a.order.role = .cover := by
  simp [Active.readsRow]

theorem State.ties_iff {s : State} {r : SetupRec} (taken : s.setup? = some r) (a : Active) :
    s.ties a = true ↔ (a.order.courseType = .knit ∧ (a.order.role = .pattern ∨ a.order.role = .cover) ∧
      a.order.floatTie = true) ∧ r.floatLimit ≠ 0 := by
  simp [State.ties, State.param_of_setup taken, Active.readsRow, and_assoc]

theorem State.chooseAction_of_untied {s : State} {a : Active} (untied : ¬ s.ties a = true) (n : Nat) :
    s.chooseAction a n = (s.roleAction a n, s.dec.float) := if_neg untied

theorem State.chooseAction_of_tied {s : State} {a : Active} {r : SetupRec} (taken : s.setup? = some r)
    (tied : s.ties a = true) (n : Nat) :
    s.chooseAction a n = tie r.floatLimit s.dec.float (s.roleAction a n) := by
  rw [State.chooseAction, if_pos tied, State.param_of_setup taken]

/-- Settles O32, by whether the tie applies and by the action. -/
theorem floatTieTucksTheLimit : Obligations.FloatTieTucksTheLimit := by
  intro s a n r taken
  have applies := s.ties_iff taken a
  refine ⟨fun without => ?_, fun limit below tied miss => ?_, fun limit tied touches => ?_⟩
  · exact State.chooseAction_of_untied (fun ties => without.elim (applies.1 ties).2 (· (applies.1 ties).1)) n
  · rw [State.chooseAction_of_tied taken (applies.2 ⟨tied, by omega⟩), miss]
    have reaches : r.floatLimit ≤ s.dec.float + 1 ↔ s.dec.float + 1 = r.floatLimit := by omega
    exact ite_congr (propext reaches) (fun _ => rfl) fun _ => rfl
  · rw [State.chooseAction_of_tied taken (applies.2 ⟨tied, by omega⟩)]
    obtain tuck | knit := touches
    · rw [tuck]
      rfl
    · rw [knit]
      rfl

/-! ### The outcome list at an arrival -/

section Enter
variable {s : State} {n : Nat} {x : Action}

theorem State.enter_of_room (room : s.dec.outcomes.length < 8) (counting guarded : Bool) :
    s.enter n counting x guarded = s.setDec { s.dec with outcomes := s.dec.outcomes ++
      [{ needle := n, counting := counting, action := x, outcome := if guarded then some .guarded else none,
         breakAfter := false }] } := if_pos room

/-- The station with a counting needle untracked, and the claim broken after the tail (R78). -/
def State.untracked (s : State) : State :=
  ((s.setDec { s.dec with outcomes := breakTail s.dec.outcomes }).setTally
    { s.course.tally with untracked := s.course.tally.untracked + 1 }).bump .needlesUntracked

theorem State.enter_of_full (full : 8 ≤ s.dec.outcomes.length) (guarded : Bool) :
    s.enter n true x guarded = s.untracked := (if_neg full.not_gt).trans (if_pos rfl)

theorem State.enter_of_full_aside (full : 8 ≤ s.dec.outcomes.length) (guarded : Bool) :
    s.enter n false x guarded = s := (if_neg full.not_gt).trans (if_neg (by simp))

end Enter

theorem breakTail_of_last {l : List Entry} {e : Entry} (last : l.getLast? = some e) :
    breakTail l = l.dropLast ++ [{ e with breakAfter := true }] := by
  simp only [breakTail, last]

/-- Settles O34, by the room in the list and by whether the needle counts. -/
theorem arrivalEntersTheOutcomeList : Obligations.ArrivalEntersTheOutcomeList := by
  intro s n counting guarded x
  refine ⟨fun room => ?_, fun full aside => ?_, fun full counts => ?_⟩
  · rw [State.enter_of_room room]
    exact ⟨(setDec_outcomes_frame s _).same, _, rfl, rfl, rfl, rfl, rfl, rfl⟩
  · rw [aside, State.enter_of_full_aside full]
  · obtain ⟨e, last⟩ : ∃ e, s.dec.outcomes.getLast? = some e := by
      refine Option.ne_none_iff_exists'.1 fun empty => ?_
      simp [List.getLast?_eq_none_iff.1 empty] at full
    rw [counts, State.enter_of_full full]
    refine ⟨(((setDec_outcomes_frame s _).then (setTally_frame _ _) (n := [.outcomes, .tally])).then
      (bump_frame _ _)).same, rfl, rfl, State.count_bump _ _ _, CountsExcept.of_bump (State.setTally _ _) _, ?_, e, last, ?_⟩
    · exact (congrArg List.dropLast (breakTail_of_last last)).trans (by simp)
    · exact (congrArg List.getLast? (breakTail_of_last last)).trans (by simp)

end Sys2Proof.Machine
end

section
/-! PROOF. SPAN and CLOSE at a held slot (R26, R28, R31, R32, R33, R48), the action by the role (R22, R38, R57,
R66 to R73), and the open run (R89 to R94). -/

namespace Sys2Proof.Machine

/-! ### Row-ready -/

/-- Row-ready primes the contexts that wait for the row; one that is PRIMED already stays (R33, R48). -/
theorem rowReady_ready {s u : State} {l : List Part} (frame : Frame l s u) (row : Word16)
    (out : ∀ p ∈ [Part.standby, .active, .rowChoice], p ∉ l := by decide) : RowReady s (u.rowReady row) row := by
  have standby : u.course.standby = s.course.standby := frame.get .standby (out _ (by simp))
  have active : u.course.active = s.course.active := frame.get .active (out _ (by simp))
  have choice : u.course.choice = s.course.choice := frame.get .rowChoice (out _ (by simp))
  have primed (y : Standby) (named : y.order.row = row) :
      (if y.status = .waiting ∧ y.order.row = row then { y with status := .primed } else y) =
        { y with status := .primed } := by
    cases status : y.status <;> simp [named, ← status]
  have running (z : Active) (named : z.order.row = row) :
      (if z.status = .waiting ∧ z.order.row = row ∧ s.course.choice = none then { z with status := .primed } else z) =
        if s.course.choice = none then { z with status := .primed } else z := by
    cases status : z.status <;> simp [named, ← status]
  simp only [RowReady, State.rowReady, State.setCourse_course, standby, active, choice]
  refine ⟨fun empty => ?_, fun y held named => ?_, fun y held other => ?_, fun empty => ?_, fun z held named open_ => ?_,
    fun z held kept => ?_⟩
  · rw [empty, Option.map_none]
  · rw [held, Option.map_some, primed y named]
  · rw [held, Option.map_some, if_neg fun h => other h.2]
  · rw [empty, Option.map_none]
  · rw [held, Option.map_some, running z named, if_pos open_]
  · rw [held, Option.map_some]
    exact congrArg some (if_neg fun h => kept.elim (· h.2.1) (· h.2.2))

/-! ### A slot that is written twice -/

theorem RowStore.put_put_slot (u : RowStore) (i j : Fin 4) (x y : Option Slot) :
    ((u.put i x).put i y).slots[j] = if i = j then y else u.slots[j] := by
  simp only [RowStore.put_slot]
  split <;> rfl

theorem CountsExcept.of_same {s t : State} (same : t.counts = s.counts) (l : List Counter) : CountsExcept l s t :=
  fun k _ => by simp only [State.count, same]

theorem State.takeSpan_of_held {s : State} {body : SpanBody} {i : Fin 4} (found : s.rows.find body.row = some i) :
    s.takeSpan body = s.spanInto i body := by
  simp only [State.takeSpan, found]

/-- Settles O24, by the slot's state, then by where the SPAN lies and whether its list has room. -/
theorem spanIsTakenIntoItsSlot : Obligations.SpanIsTakenIntoItsSlot := by
  intro body s i x hears mine ready found held
  refine ⟨_, exec_span_of_accepted hears mine ready, fun late => ?_, fun filling => ?_⟩
  · rw [State.takeSpan_of_held (s := s.endMark) found, State.spanInto_of_late (s := s.endMark) held late]
    exact ⟨((endMark_frame s).then (bump_frame _ _)).same, CountsExcept.of_bump s.endMark _, State.count_bump s.endMark _ _⟩
  · rw [State.takeSpan_of_held (s := s.endMark) found, State.spanInto_of_filling (s := s.endMark) held filling]
    have off : OffBed body s.width ↔ s.width ≤ body.first.toNat ∨ body.length = 0 := Iff.rfl
    have put := (endMark_frame s).then (put_frame s.endMark i (some x.counted)) (n := .rowSlots :: noticeParts)
    have slot (y : Slot) (j : Fin 4) := RowStore.put_put_slot s.rows i j (some x.counted) (some y)
    by_cases outside : OffBed body s.width
    · rw [insertSpan_of_offBed (s := s.endMark.setRows _) i _ outside]
      refine ⟨x.counted, (RowStore.put_slot _ _ _ _).trans (if_pos rfl), rfl, rfl, rfl,
        fun j other => (RowStore.put_slot _ _ _ _).trans (if_neg other.symm), ?_⟩
      dsimp only
      rw [if_pos (off.1 outside)]
      exact ⟨(put.then (bump_frame _ _)).same, filling, rfl, CountsExcept.of_bump (State.setRows _ _) _,
        State.count_bump (State.setRows _ _) _ _⟩
    by_cases fits : paintCount body.first.toNat (lastOnBed body s.width) (SpanBody.paintColour body) x.spans ≤ 384
    · rw [insertSpan_of_fits (s := s.endMark.setRows _) (x := x.counted) i outside fits]
      refine ⟨_, (slot _ i).trans (if_pos rfl), rfl, rfl, rfl, fun j other => (slot _ j).trans (if_neg other.symm), ?_⟩
      dsimp only
      rw [if_neg (mt off.2 outside)]
      exact if_pos fits ▸ ⟨(put.then (put_frame _ _ _)).same, filling, rfl⟩
    · rw [insertSpan_of_full (s := s.endMark.setRows _) (x := x.counted) i outside fits]
      refine ⟨_, (slot _ i).trans (if_pos rfl), rfl, rfl, rfl, fun j other => (slot _ j).trans (if_neg other.symm), ?_⟩
      dsimp only
      rw [if_neg (mt off.2 outside)]
      have damaged := (put.then (put_frame _ i (some { x.counted with state := .damaged })) (n := .rowSlots :: noticeParts)).then
        (bump_frame _ .rowsDamaged) (n := ([.rowSlots, .counts] : List Part) ++ noticeParts)
      exact if_neg fits ▸ ⟨(damaged.then (rowReady_frame _ _)).same, rowReady_ready damaged x.row, rfl, rfl,
        CountsExcept.of_bump (State.setRows _ _) _, State.count_bump (State.setRows _ _) _ _⟩

/-! ### CLOSE -/

theorem exec_close_of_accepted {body : CloseBody} {s : State} (hears : s.hears = true)
    (mine : s.inMask body.mask = true) (ready : s.ctl.mode ≠ .setup) :
    exec (.close body) s = .next (s.endMark.takeClose body) :=
  congrArg Host.Outcome.next (((State.heard_of_hears hears _).trans (if_pos mine)).trans
    (State.filtered_of_ready (s := s.endMark) ready _))

theorem State.takeClose_of_held {s : State} {body : CloseBody} {i : Fin 4} {x : Slot}
    (found : s.rows.find body.row = some i) (held : s.rows.slots[i] = some x) :
    s.takeClose body =
      if x.state = .filling then
        if x.count = body.count.toNat then
          (s.setRows (s.rows.put i (some { x with state := .closed }))).rowReady x.row
        else s.damageSlot i x
      else s := by
  simp only [State.takeClose, found, held]

/-- A CLOSE of a row that is not FILLING changes nothing (R32). -/
theorem State.takeClose_of_settled {s : State} {body : CloseBody} (settled : s.rows.stateOf body.row ≠ some .filling) :
    s.takeClose body = s := by
  cases found : s.rows.find body.row with
  | none => simp only [State.takeClose, found]
  | some i =>
    obtain ⟨x, held, _⟩ := RowStore.find_eq_some found
    rw [State.takeClose_of_held found held]
    refine if_neg fun filling => settled ?_
    rw [RowStore.stateOf_of_find found held, filling]

/-- Settles O26, by the slot's state and then by the count. -/
theorem closeSettlesAFillingRow : Obligations.CloseSettlesAFillingRow := by
  intro body s hears mine ready
  refine ⟨_, exec_close_of_accepted hears mine ready, fun settled => ?_, fun i x found held filling => ?_⟩
  · rw [State.takeClose_of_settled (s := s.endMark) settled]
    exact (endMark_frame s).same
  · rw [State.takeClose_of_held (s := s.endMark) found held, if_pos filling]
    have slot (y : Option Slot) (j : Fin 4) := RowStore.put_slot s.rows i j y
    split_ifs with counted
    · exact ⟨(slot _ i).trans (if_pos rfl), fun j other => (slot _ j).trans (if_neg other.symm),
        .of_same rfl _, fun _ => rfl, fun differs => absurd counted differs,
        rowReady_ready ((endMark_frame s).then (put_frame s.endMark i _) (n := .rowSlots :: noticeParts)) x.row⟩
    · refine ⟨(slot _ i).trans (if_pos rfl), fun j other => (slot _ j).trans (if_neg other.symm),
        CountsExcept.of_bump (State.setRows _ _) _, fun same => absurd same counted,
        fun _ => State.count_bump (State.setRows _ _) _ _, ?_⟩
      exact rowReady_ready (((endMark_frame s).then (put_frame s.endMark i _) (n := .rowSlots :: noticeParts)).then
        (bump_frame _ .rowsDamaged) (n := ([.rowSlots, .counts] : List Part) ++ noticeParts)) x.row

/-! ### The row source -/

theorem State.colour_of_source {s : State} {a : Active} {x : Slot} (source : s.sourceSlot a = some x) (n : Nat) :
    s.colour a n = colourAt n x.spans := by
  simp only [State.colour, source]

theorem State.colour_of_unsourced {s : State} {a : Active} (source : s.sourceSlot a = none) (n : Nat) :
    s.colour a n = 0 := by
  simp only [State.colour, source]

theorem State.sourceSlot_of_own {s : State} {a : Active} (own : s.course.choice = some .own) :
    s.sourceSlot a = (s.rows.find a.order.row).bind fun i => s.rows.slots[i] := by
  simp only [State.sourceSlot, own]

theorem State.sourceSlot_of_pinned {s : State} {a : Active} (pinned : s.course.choice = some .pinned) :
    s.sourceSlot a = s.rows.pinned.bind fun i => s.rows.slots[i] := by
  simp only [State.sourceSlot, pinned]

theorem State.sourceSlot_of_nothing {s : State} {a : Active}
    (nothing : s.course.choice = some .nothing ∨ s.course.choice = none) : s.sourceSlot a = none := by
  obtain chosen | chosen := nothing <;> simp only [State.sourceSlot, chosen]

/-- The only slot of a row is the one found for it. -/
theorem RowStore.find_of_only {u : RowStore} {row : Word16} {i : Fin 4} {x : Slot} (held : u.slots[i] = some x)
    (named : x.row = row) (only : ∀ (j : Fin 4) (y : Slot), u.slots[j] = some y → y.row = row → j = i) :
    u.find row = some i := by
  cases found : u.find row with
  | none => exact absurd named (RowStore.find_eq_none.1 found i x held)
  | some j =>
    obtain ⟨y, beside, same⟩ := RowStore.find_eq_some found
    rw [only j y beside same]

/-- The colour by the row choice (R22, R38, R57). -/
theorem colour_by_choice (s : State) (a : Active) (n : Nat) :
    (s.course.choice = some .own →
      (∀ (i : Fin 4) (x : Slot), s.rows.slots[i] = some x → x.row = a.order.row →
        (∀ (j : Fin 4) (y : Slot), s.rows.slots[j] = some y → y.row = a.order.row → j = i) →
        s.colour a n = colourAt n x.spans) ∧
      ((∀ (i : Fin 4) (x : Slot), s.rows.slots[i] = some x → x.row ≠ a.order.row) →
        s.colour a n = 0)) ∧
    (s.course.choice = some .pinned →
      (∀ (i : Fin 4) (x : Slot), s.rows.pinned = some i → s.rows.slots[i] = some x →
        s.colour a n = colourAt n x.spans) ∧
      (s.rows.pinned = none → s.colour a n = 0)) ∧
    (s.course.choice = some .nothing ∨ s.course.choice = none → s.colour a n = 0) := by
  refine ⟨fun own => ⟨fun i x held named only => ?_, fun without => ?_⟩,
    fun pinned => ⟨fun i x pin held => ?_, fun without => ?_⟩, fun nothing => ?_⟩
  · refine State.colour_of_source ?_ n
    rw [State.sourceSlot_of_own own, RowStore.find_of_only held named only, Option.bind_some, held]
  · refine State.colour_of_unsourced ?_ n
    rw [State.sourceSlot_of_own own, RowStore.find_eq_none.2 without, Option.bind_none]
  · refine State.colour_of_source ?_ n
    rw [State.sourceSlot_of_pinned pinned, pin, Option.bind_some, held]
  · refine State.colour_of_unsourced ?_ n
    rw [State.sourceSlot_of_pinned pinned, without, Option.bind_none]
  · exact State.colour_of_unsourced (State.sourceSlot_of_nothing nothing) n

/-! ### The roles -/

theorem State.pageEntry_of_page {s : State} {a : Active} {p : Page} (bound : s.claim.pageOf a.order.row = some p)
    (n : Nat) : s.pageEntry a n = p.entry n := by
  simp only [State.pageEntry, bound]

theorem State.roleAction_of_pattern {s : State} {a : Active} (role : a.order.role = .pattern) (n : Nat) :
    s.roleAction a n =
      if a.order.colours.getLsbD (s.colour a n) then a.order.selected else a.order.unselected := by
  simp only [State.roleAction, role]
  rfl

theorem State.roleAction_of_cover {s : State} {a : Active} (role : a.order.role = .cover) (n : Nat) :
    s.roleAction a n =
      if a.order.colours.getLsbD (s.colour a n) then a.order.selected
      else coverAction a (s.pageEntry a n) s.ctl.station (s.param (·.unheard) .fill) := by
  simp only [State.roleAction, role]
  rfl

theorem State.roleAction_of_backing {s : State} {a : Active} (role : a.order.role = .backing) (n : Nat) :
    s.roleAction a n = s.course.table.getD ((n + s.course.phase) % s.course.table.length) .miss := by
  simp only [State.roleAction, role, State.backingAction]

/-- Settles O31, by the role, and for a COVER course by what was heard of the needle. -/
theorem roleChoosesTheAction : Obligations.RoleChoosesTheAction := by
  refine ⟨fun w n l form => ⟨fun x member low high => ?_, fun outside => ?_⟩, colour_by_choice, fun s a n => ?_⟩
  · exact colourAt_of_shows ((canonical_iff w l).1 form).1.apart ⟨x, member, low, high, rfl⟩
  · refine colourAt_of_not_shows fun c ⟨x, member, low, high, _⟩ => ?_
    have := outside x member
    omega
  · refine ⟨fun p bound => ⟨State.pageEntry_of_page bound n, fun x listed => ?_⟩, fun idle => ?_,
      fun pattern => State.roleAction_of_pattern pattern n, fun cover selected => ?_, fun cover unselected => ?_,
      fun backing entries => ?_⟩
    · rw [State.pageEntry_of_page bound, Page.entry, List.getD_eq_getElem?_getD, listed, Option.getD_some]
    · simp only [State.roleAction, idle]
    · rw [State.roleAction_of_cover cover, if_pos selected]
    · rw [State.roleAction_of_cover cover, if_neg (by rw [unselected]; decide)]
      refine ⟨fun looped => if_pos looped, fun silent heard => ?_, fun silent unheard r taken => ?_⟩
      · exact (if_neg (not_not.2 silent)).trans (if_pos heard)
      · rw [State.param_of_setup taken]
        refine ((if_neg (not_not.2 silent)).trans (if_neg unheard)).trans ?_
        cases r.unheard <;> rfl
    · have inside := Nat.mod_lt (n + s.course.phase) entries
      rw [State.roleAction_of_backing backing, List.getElem?_eq_getElem inside, List.getD_eq_getElem _ _ inside]

/-! ### The open run -/

section Run
variable {s : State} {a : Active} {r : OpenRun}

/-- The CLAIM of a run (R93). -/
def OpenRun.claim (r : OpenRun) (a : Active) : Notice :=
  .claim a.order.pass a.order.row (min r.first r.last) r.count r.result

/-- The station with its run closed and counted, before the CLAIM is offered (R93). -/
def State.runFormed (s : State) : State := (s.setClaim { s.claim with run := none }).bump .claimsFormed

theorem runFormed_frame (s : State) : Frame [.openRun, .counts] s s.runFormed :=
  (setClaim_run_frame s none).then (bump_frame _ _)

theorem State.closeRun_of_room (active : s.course.active = some a) (open_ : s.claim.run = some r)
    (room : s.line.list.length < 16) : s.closeRun = s.runFormed.offer (r.claim a) := by
  have hasRoom : s.runFormed.hasRoom = true := decide_eq_true room
  simp only [State.closeRun, State.formClaim, open_, State.setClaim_course, active]
  exact if_pos hasRoom

theorem State.closeRun_of_full (active : s.course.active = some a) (open_ : s.claim.run = some r)
    (full : 16 ≤ s.line.list.length) : s.closeRun = (s.runFormed.bump .claimDrops).setCourseFlag .claimsDropped := by
  have hasRoom : ¬ s.runFormed.hasRoom = true := by
    rw [show s.runFormed.hasRoom = false from decide_eq_false (Nat.not_lt.2 full)]
    decide
  rw [← show s.runFormed.offer (r.claim a) = s.runFormed.bump .claimDrops from State.offer_full s.runFormed _ full]
  simp only [State.closeRun, State.formClaim, open_, State.setClaim_course, active]
  exact if_neg hasRoom

/-- A CLAIM formed of a run joins the list, or finds it full and sets CLAIMS DROPPED (R93, R94, R156). -/
theorem closeRun_offers (active : s.course.active = some a) (open_ : s.claim.run = some r) :
    (s.line.list.length < 16 → r.claim a ∈ s.closeRun.line.list) ∧
    (16 ≤ s.line.list.length → s.closeRun.line.list = s.line.list ∧ s.closeRun.isCourseFlag .claimsDropped = true) := by
  refine ⟨fun room => ?_, fun full => ?_⟩
  · rw [State.closeRun_of_room active open_ room, State.offer_room s.runFormed _ room]
    exact (mem_joinList _ _ _).2 (.inl rfl)
  · rw [State.closeRun_of_full active open_ full]
    refine ⟨(setCourseFlag_frame (s.runFormed.bump .claimDrops) .claimsDropped).get .transmitList, ?_⟩
    rw [State.isCourseFlag_setCourseFlag, decide_eq_true rfl, Bool.or_true]

/-- What waits in the list stays as a run closes, and no course flag falls. -/
theorem closeRun_keeps (s : State) :
    (∀ n ∈ s.line.list, n ∈ s.closeRun.line.list) ∧ (s.line.list.length ≤ s.closeRun.line.list.length) ∧
    ∀ f, s.isCourseFlag f = true → s.closeRun.isCourseFlag f = true := by
  cases open_ : s.claim.run with
  | none => simp [State.closeRun, open_]
  | some r =>
    cases active : s.course.active with
    | none => simp [State.closeRun, State.formClaim, open_, active, State.isCourseFlag]
    | some a =>
      obtain room | full := Nat.lt_or_ge s.line.list.length 16
      · rw [State.closeRun_of_room active open_ room, State.offer_room s.runFormed _ room]
        exact ⟨fun n member => (mem_joinList _ _ _).2 (.inr member),
          (joinList_length _ _).symm ▸ Nat.le_succ s.line.list.length, fun f set => set⟩
      · obtain ⟨list, _⟩ := (closeRun_offers active open_).2 full
        refine ⟨fun n member => list.symm ▸ member, list.symm ▸ le_rfl, fun f set => ?_⟩
        rw [State.closeRun_of_full active open_ full, State.isCourseFlag_setCourseFlag]
        exact Bool.or_eq_true_iff.2 (.inl set)

end Run

/-- What a run that closes changes, and its CLAIM (R93, R94). -/
theorem closeRun_forms (s : State) (a : Active) (y : OpenRun) (active : s.course.active = some a)
    (open_ : s.claim.run = some y) :
    let t := s.closeRun
    t.claim.run = none ∧ t.count .claimsFormed = min (s.count .claimsFormed + 1) 65535 ∧
    (s.line.list.length < 16 →
      SameExcept [.openRun, .transmitList, .counts] s t ∧ CountsExcept [.claimsFormed] s t ∧
      Joined (y.claim a) s.line.list t.line.list) ∧
    (16 ≤ s.line.list.length →
      SameExcept [.openRun, .courseFlags, .counts] s t ∧
      t.isCourseFlag .claimsDropped = true ∧ FlagsExcept [.claimsDropped] s t ∧
      CountsExcept [.claimsFormed, .claimDrops] s t ∧
      t.count .claimDrops = min (s.count .claimDrops + 1) 65535) := by
  intro t
  have formed : CountsExcept [.claimsFormed] s s.runFormed := CountsExcept.of_bump (State.setClaim _ _) _
  have counted : s.runFormed.count .claimsFormed = min (s.count .claimsFormed + 1) 65535 := State.count_bump (State.setClaim _ _) _ _
  obtain room | full := Nat.lt_or_ge s.line.list.length 16
  · have closed : t = s.runFormed.setLine { s.runFormed.line with list := joinList (y.claim a) s.line.list } :=
      (State.closeRun_of_room active open_ room).trans (State.offer_room s.runFormed _ room)
    rw [closed]
    refine ⟨rfl, counted, fun _ => ⟨?_, formed, joined_joinList _ _⟩, fun full => absurd full (by omega)⟩
    exact ((runFormed_frame s).then (setLine_list_frame _ _)).same
  · have closed : t = (s.runFormed.bump .claimDrops).setCourseFlag .claimsDropped := State.closeRun_of_full active open_ full
    have flag := setCourseFlag_frame_of_none (s.runFormed.bump .claimDrops) .claimsDropped rfl
    have dropped := formed.then (CountsExcept.of_bump s.runFormed .claimDrops)
    rw [closed]
    refine ⟨flag.get .openRun, ?_, fun room => absurd room (by omega), fun _ => ⟨?_, ?_, fun f other => ?_,
      fun k other => (flag.count_eq k).trans (dropped k other), ?_⟩⟩
    · exact (flag.count_eq _).trans ((CountsExcept.of_bump s.runFormed .claimDrops _ (by decide)).trans counted)
    · exact (((runFormed_frame s).then (bump_frame _ _) (n := [.openRun, .counts])).then flag).same
    · rw [State.isCourseFlag_setCourseFlag, decide_eq_true rfl, Bool.or_true]
    · rw [State.isCourseFlag_setCourseFlag, decide_eq_false fun same => other (by simp [← same]), Bool.or_false]
      rfl
    · exact (flag.count_eq _).trans ((State.count_bump s.runFormed _ _).trans (by rw [formed _ (by decide)]; rfl))

/-! ### A result handed to the run -/

theorem State.closeDiffering_of_same {s : State} {x : NeedleResult}
    (same : ∀ y, s.claim.run = some y → y.result = x) : s.closeDiffering x = s := by
  unfold State.closeDiffering
  split
  next y open_ => exact if_pos (same y open_)
  · rfl

theorem State.closeDiffering_of_differing {s : State} {x : NeedleResult} {y : OpenRun}
    (open_ : s.claim.run = some y) (differs : y.result ≠ x) : s.closeDiffering x = s.closeRun := by
  simp only [State.closeDiffering, open_, if_neg differs]

/-- The result of a run is the one handed to it, whether it joins a run or opens one (R89). -/
theorem extendRun_closeDiffering (s : State) (n : Nat) (x : NeedleResult) :
    extendRun (s.closeDiffering x).claim.run n x = extendRun s.claim.run n x := by
  unfold State.closeDiffering
  split
  next y open_ =>
    split_ifs with same
    · rfl
    · rw [closeRun_run, open_]
      exact (if_neg same).symm
  · rfl

theorem closeDiffering_frame (s : State) (x : NeedleResult) :
    Frame [.openRun, .courseFlags, .transmitList, .counts] s (s.closeDiffering x) := by
  unfold State.closeDiffering
  split
  · exact .ite (.refl _ s) (closeRun_frame s)
  · exact .refl _ s

/-- The station with an open run. -/
def State.withRun (s : State) (y : OpenRun) : State := s.setClaim { s.claim with run := some y }

theorem State.joinRun_of_short {s : State} {a : Active} {n : Nat} {x : NeedleResult} {r : SetupRec}
    (taken : s.setup? = some r) (short : (extendRun s.claim.run n x).count < r.runLimit) (near : n ≠ a.farEdge) :
    s.joinRun a n x = s.withRun (extendRun s.claim.run n x) := by
  have limit : (s.withRun (extendRun s.claim.run n x)).param (·.runLimit) 1 = r.runLimit :=
    State.param_of_setup (s := s) taken (·.runLimit) 1
  exact if_neg (limit ▸ not_or.2 ⟨Nat.not_le.2 short, near⟩)

theorem State.joinRun_of_long {s : State} {a : Active} {n : Nat} {x : NeedleResult} {r : SetupRec}
    (taken : s.setup? = some r) (long : r.runLimit ≤ (extendRun s.claim.run n x).count ∨ n = a.farEdge) :
    s.joinRun a n x = (s.withRun (extendRun s.claim.run n x)).closeRun := by
  have limit : (s.withRun (extendRun s.claim.run n x)).param (·.runLimit) 1 = r.runLimit :=
    State.param_of_setup (s := s) taken (·.runLimit) 1
  exact if_pos (limit.symm ▸ long)

/-- What joins the list while a run is closed for a differing result stays as its successor joins or closes. -/
theorem joinRun_keeps (s : State) (a : Active) (n : Nat) (x : NeedleResult) :
    (∀ m ∈ s.line.list, m ∈ (s.joinRun a n x).line.list) ∧
    ∀ f, s.isCourseFlag f = true → (s.joinRun a n x).isCourseFlag f = true := by
  obtain ⟨list, _, flags⟩ := closeRun_keeps (s.withRun (extendRun s.claim.run n x))
  unfold State.joinRun
  dsimp only
  split_ifs
  · exact ⟨list, flags⟩
  · exact ⟨fun _ member => member, fun _ set => set⟩

section HandRun
variable {s : State} {a : Active} {n : Nat} {x : NeedleResult} {r : SetupRec}

theorem State.handRun_of_short (taken : s.setup? = some r) (short : (extendRun s.claim.run n x).count < r.runLimit)
    (near : n ≠ a.farEdge) : s.handRun a n x = (s.closeDiffering x).withRun (extendRun s.claim.run n x) := by
  have kept := (setup?_of_mode ((closeDiffering_frame s x).get .mode)).trans taken
  rw [← extendRun_closeDiffering] at short ⊢
  exact State.joinRun_of_short kept short near

theorem State.handRun_of_long (taken : s.setup? = some r)
    (long : r.runLimit ≤ (extendRun s.claim.run n x).count ∨ n = a.farEdge) :
    s.handRun a n x = ((s.closeDiffering x).withRun (extendRun s.claim.run n x)).closeRun := by
  have kept := (setup?_of_mode ((closeDiffering_frame s x).get .mode)).trans taken
  rw [← extendRun_closeDiffering] at long ⊢
  exact State.joinRun_of_long kept long

/-- A result handed to the open run: whether it differs, and whether the run it leaves reaches its end. -/
theorem handRun_runs (taken : s.setup? = some r) (active : s.course.active = some a) :
    let t := s.handRun a n x
    let run := extendRun s.claim.run n x
    (∀ y, s.claim.run = some y → y.result ≠ x → t = s.closeRun.handRun a n x) ∧
    ((∀ y, s.claim.run = some y → y.result = x) →
      (run.count < r.runLimit → n ≠ a.farEdge → t = s.withRun run) ∧
      (r.runLimit ≤ run.count ∨ n = a.farEdge → t = (s.withRun run).closeRun)) ∧
    (∀ y, s.claim.run = some y → y.result ≠ x →
      (s.line.list.length < 16 → y.claim a ∈ t.line.list) ∧
      (16 ≤ s.line.list.length → t.isCourseFlag .claimsDropped = true)) ∧
    (run.count < r.runLimit → n ≠ a.farEdge → t.claim.run = some run) ∧
    (r.runLimit ≤ run.count ∨ n = a.farEdge → t.claim.run = none ∧
      (run.claim a ∈ t.line.list ∨ 16 ≤ t.line.list.length)) := by
  intro t run
  refine ⟨fun y open_ differs => ?_, fun same => ⟨fun short near => ?_, fun long => ?_⟩, fun y open_ differs => ?_,
    fun short near => ?_, fun long => ⟨?_, ?_⟩⟩
  · have nothing : s.closeRun.closeDiffering x = s.closeRun :=
      State.closeDiffering_of_same fun z reopened => by rw [closeRun_run] at reopened; cases reopened
    rw [State.handRun_eq_joinRun, nothing, ← State.closeDiffering_of_differing open_ differs]
    rfl
  · exact (State.handRun_of_short taken short near).trans (by rw [State.closeDiffering_of_same same])
  · exact (State.handRun_of_long taken long).trans (by rw [State.closeDiffering_of_same same])
  · have handed : t = s.closeRun.joinRun a n x := by
      rw [← State.closeDiffering_of_differing open_ differs]
      rfl
    obtain ⟨list, flags⟩ := joinRun_keeps s.closeRun a n x
    obtain ⟨joins, drops⟩ := closeRun_offers active open_
    rw [handed]
    exact ⟨fun room => list _ (joins room), fun full => flags _ (drops full).2⟩
  · exact congrArg (·.claim.run) (State.handRun_of_short taken short near)
  · exact (congrArg (·.claim.run) (State.handRun_of_long taken long)).trans (closeRun_run _)
  · have running : ((s.closeDiffering x).withRun run).course.active = some a :=
      ((closeDiffering_frame s x).get .active).trans active
    obtain ⟨joins, drops⟩ := closeRun_offers running (r := run) rfl
    rw [show t = _ from State.handRun_of_long taken long]
    obtain room | full := Nat.lt_or_ge ((s.closeDiffering x).withRun run).line.list.length 16
    · exact .inl (joins room)
    · exact .inr ((drops full).1.symm ▸ full)

end HandRun

/-- Settles O37: a result handed to the run, and a run that closes. -/
theorem resultExtendsTheOpenRun : Obligations.ResultExtendsTheOpenRun :=
  ⟨fun _ _ _ _ _ taken active => handRun_runs taken active, closeRun_forms⟩

end Sys2Proof.Machine
end

section
/-! PROOF. The ends of a fire (R113 to R118). -/

namespace Sys2Proof.Machine

/-! ### What a leaving entry counts -/

/-- The counters that entries count as they leave, and those of the runs they close (R84, R93, R94). -/
def leaveCounters : List Counter :=
  [.needlesGuarded, .needlesRefusedByHead, .needlesRefusedForRail, .needlesLost, .needlesFaulted, .needlesEnded,
   .claimsFormed, .claimDrops]

/-- Counted as far as entries that leave count. -/
theorem CountsExcept.leaves {s t u : State} (h : CountsExcept leaveCounters s t) (k : CountsExcept leaveCounters t u) :
    CountsExcept leaveCounters s u :=
  (h.then k).mono fun _ member => (List.mem_append.1 member).elim id id

theorem closeRun_counts (s : State) : CountsExcept leaveCounters s s.closeRun := by
  cases open_ : s.claim.run with
  | none => simpa only [State.closeRun, open_] using CountsExcept.refl _ s
  | some y =>
    cases active : s.course.active with
    | none =>
      simp only [State.closeRun, State.formClaim, open_, active, State.setClaim_course]
      exact .of_same rfl _
    | some a =>
      obtain ⟨_, _, room, full⟩ := closeRun_forms s a y active open_
      obtain less | more := Nat.lt_or_ge s.line.list.length 16
      · exact (room less).2.1.mono (by decide)
      · exact (full more).2.2.2.1.mono (by decide)

theorem handRun_counts (s : State) (a : Active) (n : Nat) (x : NeedleResult) :
    CountsExcept leaveCounters s (s.handRun a n x) := by
  have differing : CountsExcept leaveCounters s (s.closeDiffering x) := by
    unfold State.closeDiffering
    split
    · exact .ite (.refl _ s) (closeRun_counts s)
    · exact .refl _ s
  exact differing.leaves (.ite (closeRun_counts (State.setClaim _ _)) (.of_same rfl _))

theorem tallied_counts (s : State) (e : Entry) (o : NeedleOutcome) : CountsExcept leaveCounters s (s.tallied e o) := by
  unfold State.tallied
  split
  · cases o with
    | done => exact .of_same rfl _
    | _ => exact (CountsExcept.of_bump (s.setTally _) _).mono (by decide)
  · exact .refl _ s

theorem told_counts (s : State) (e : Entry) (o : NeedleOutcome) : CountsExcept leaveCounters s (s.told e o) := by
  unfold State.told State.announce
  refine .ite ?_ (.refl _ s)
  split
  · exact .ite (handRun_counts s _ _ _) (.refl _ s)
  · exact .refl _ s

theorem account_counts (s : State) (e : Entry) (o : NeedleOutcome) : CountsExcept leaveCounters s (s.account e o) := by
  rw [State.account_eq]
  have told := (tallied_counts s e o).leaves (told_counts _ e o)
  exact .ite (told.leaves (closeRun_counts _)) told

theorem leaveFrom_counts (l : List Entry) (s : State) : CountsExcept leaveCounters s (leaveFrom l s) := by
  induction l generalizing s with
  | nil => exact .of_same rfl _
  | cons e es ih =>
    unfold leaveFrom
    split
    · exact (account_counts s e _).leaves (ih _)
    · exact .of_same rfl _

theorem answer_counts (s : State) (n : Nat) (o : NeedleOutcome) : CountsExcept leaveCounters s (s.answer n o) :=
  leaveFrom_counts _ (s.resolve n o)

theorem answerIf_counts (s : State) (n : Option Nat) (o : NeedleOutcome) :
    CountsExcept leaveCounters s (s.answerIf n o) := by
  cases n with
  | none => exact .refl _ s
  | some n => exact answer_counts s n o

/-! ### Answers -/

theorem answer_outcomes (s : State) (n : Nat) (o : NeedleOutcome) :
    (s.answer n o).dec.outcomes = answered s.dec.outcomes n o := leaveFrom_outcomes _ _

theorem answerIf_outcomes (s : State) (n : Option Nat) (o : NeedleOutcome) :
    (s.answerIf n o).dec.outcomes =
      match n with
      | some n => answered s.dec.outcomes n o
      | none => s.dec.outcomes := by
  cases n with
  | none => rfl
  | some n => exact answer_outcomes s n o

theorem answer_head (s : State) (n : Nat) (o : NeedleOutcome) : (s.answer n o).head = s.head :=
  (answer_frame s n o).same.head_eq

theorem answerIf_head (s : State) (n : Option Nat) (o : NeedleOutcome) : (s.answerIf n o).head = s.head :=
  (answerIf_frame s n o).same.head_eq

/-! ### Serving the pending request -/

theorem State.passedSelector_of_idx {s t : State} (same : t.pos.idx = s.pos.idx) (travel : Dir) (n : Nat) :
    t.passedSelector travel n = s.passedSelector travel n := by
  simp only [State.passedSelector, same]

/-- The answer to a pending needle that starts no fire (R117). -/
def State.refusal (s : State) (q : Request) : NeedleOutcome :=
  if s.passedSelector q.travel q.needle = true then .lost
  else if s.head.disabled = true then .disabled
  else if s.head.height = some q.target then .done
  else .rail

/-- A pending request starts no fire (R117). -/
def State.Refuses (s : State) (q : Request) : Prop :=
  s.passedSelector q.travel q.needle = true ∨ s.head.disabled = true ∨ s.head.height = some q.target ∨
    s.head.railGood = false

theorem State.pendingAnswer_of_refused {s : State} {q : Request} (refused : s.Refuses q) :
    s.pendingAnswer q = some (s.refusal q) := by
  unfold State.pendingAnswer State.refusal
  split_ifs with passed disabled stands low
  all_goals try rfl
  exact absurd refused (by simp_all [State.Refuses])

theorem State.pendingAnswer_of_allowed {s : State} {q : Request} (allowed : ¬ s.Refuses q) :
    s.pendingAnswer q = none := by
  simp only [State.Refuses, not_or, Bool.not_eq_true, Bool.not_eq_false] at allowed
  obtain ⟨ahead, enabled, moves, good⟩ := allowed
  simp only [State.pendingAnswer, ahead, enabled, moves, good, Bool.not_true, if_false, Bool.false_eq_true]

/-- What serving the pending request makes of the head and of the outcome list. -/
structure State.Serves (s : State) (head : Head) (outcomes : List Entry) : Prop where
  head : s.serve.head = head
  outcomes : s.serve.dec.outcomes = outcomes

section Serve
variable {s : State} {q : Request} (waiting : s.head.waiting = some q)
include waiting

theorem State.serve_of_refused (refused : s.Refuses q) :
    s.Serves { s.head with waiting := none } (answered s.dec.outcomes q.needle (s.refusal q)) := by
  have served := State.serve_of_answer waiting (State.pendingAnswer_of_refused refused)
  exact ⟨served ▸ answer_head _ _ _, served ▸ answer_outcomes _ _ _⟩

theorem State.serve_of_allowed (allowed : ¬ s.Refuses q) :
    s.Serves { s.head with
      waiting := none, height := none, code := q.target,
      fire := some { target := q.target, needle := some q.needle, deadline := s.fireTime } } s.dec.outcomes := by
  have served := State.serve_of_fire waiting (State.pendingAnswer_of_allowed allowed)
  exact ⟨served ▸ rfl, served ▸ rfl⟩

end Serve

theorem serve_waiting (s : State) : s.serve.head.waiting = none := by
  cases waiting : s.head.waiting with
  | none => rw [State.serve_of_alone waiting, waiting]
  | some q =>
    by_cases refused : s.Refuses q
    · rw [(State.serve_of_refused waiting refused).head]
    · rw [(State.serve_of_allowed waiting refused).head]

theorem serve_faults (s : State) : s.serve.head.faults = s.head.faults := (serve_frame s).get .headFaults

theorem serve_height {s : State} (unknown : s.head.height = none) : s.serve.head.height = none := by
  cases waiting : s.head.waiting with
  | none => rw [State.serve_of_alone waiting, unknown]
  | some q =>
    by_cases refused : s.Refuses q
    · rw [(State.serve_of_refused waiting refused).head, unknown]
    · rw [(State.serve_of_allowed waiting refused).head]

theorem serve_counts (s : State) : CountsExcept (.firesStarted :: leaveCounters) s s.serve := by
  obtain ⟨_, served⟩ | ⟨q, o, _, _, served⟩ | ⟨q, _, _, served⟩ := s.serve_cases <;> rw [served]
  · exact .refl _ s
  · exact (answer_counts s.dropWaiting _ _).mono (List.subset_cons_self _ _)
  · exact (CountsExcept.of_startFire s.dropWaiting _ _).mono (by decide)

/-! ### The end of a fire by its confirm -/

theorem fireTime_of_mode {s t : State} (mode : t.ctl.mode = s.ctl.mode) : t.fireTime = s.fireTime := by
  simp only [State.fireTime, State.param, setup?_of_mode mode]

/-- Settles O39: the pending request is served by the selector, the head and the rail as the confirm leaves them. -/
theorem headConfirmEndsTheFire : Obligations.HeadConfirmEndsTheFire := by
  refine ⟨fun s i n formed => ?_, fun s => ?_⟩
  · simp [State.passedSelector, formed]
  cases firing : s.head.fire with
  | none =>
    exact ⟨_, exec_headConfirm_of_idle firing, fun _ => ⟨(bump_frame s _).same, CountsExcept.of_bump s _, State.count_bump _ _ _⟩,
      fun _ absent => by cases absent⟩
  | some f =>
    let u := (s.fireConfirmed f).answerIf f.needle .done
    have head : u.head = { s.head with height := some f.target, fire := none, faults := 0 } := answerIf_head _ _ _
    have outcomes := answerIf_outcomes (s.fireConfirmed f) f.needle .done
    have frame := answerIf_frame (s.fireConfirmed f) f.needle .done
    have time : u.fireTime = s.fireTime := fireTime_of_mode (frame.get .mode)
    refine ⟨u.serve, exec_headConfirm_of_fire firing, ⟨fun absent => (Option.some_ne_none f absent).elim, fun g same => ?_⟩⟩
    obtain rfl := Option.some.inj same
    refine ⟨(serve_faults u).trans (by rw [head]), serve_waiting u, fun alone => ?_, fun q waiting => ?_⟩
    · rw [State.serve_of_alone (by rw [head, alone])]
      refine ⟨by rw [head], by rw [head], by rw [head], outcomes, fun bare => ?_⟩
      have unanswered : u = s.fireConfirmed f := by simp only [u, bare, State.answerIf]
      exact unanswered ▸ (fireConfirmed_frame s f).same
    · have pending : u.head.waiting = some q := by rw [head, waiting]
      have passed : u.passedSelector q.travel q.needle = s.passedSelector q.travel q.needle :=
        State.passedSelector_of_idx (frame.get .posIndices) _ _
      have refuses : u.Refuses q ↔ s.passedSelector q.travel q.needle = true ∨ s.head.disabled = true ∨
          f.target = q.target ∨ s.head.railGood = false := by
        rw [State.Refuses, passed, head, Option.some.injEq]
      by_cases stands : s.passedSelector q.travel q.needle = true ∨ s.head.disabled = true ∨ f.target = q.target ∨
          s.head.railGood = false
      · rw [if_pos stands]
        obtain ⟨served, answers⟩ := State.serve_of_refused pending (refuses.2 stands)
        rw [served, answers, head, State.refusal, passed, head]
        simp only [Option.some.injEq, true_and]
        exact congrArg (fun l => answered l q.needle _) outcomes
      · rw [if_neg stands]
        obtain ⟨served, answers⟩ := State.serve_of_allowed pending (mt refuses.1 stands)
        rw [served, answers, time]
        exact ⟨rfl, rfl, outcomes, rfl⟩

/-! ### The end of a fire by its deadline -/

theorem judgeFaults_head (s : State) :
    s.judgeFaults.head = { s.head with disabled := s.head.disabled || s.faultLimitReached } := by
  unfold State.judgeFaults
  cases reached : s.faultLimitReached with
  | true =>
    rw [if_pos (show s.param _ false = true from reached), Bool.or_true]
    rfl
  | false =>
    rw [if_neg (by rw [show s.param _ false = false from reached]; decide), Bool.or_false]

theorem judgeFaults_of_unreached {s : State} (unreached : s.faultLimitReached = false) : s.judgeFaults = s :=
  if_neg (by rw [show s.param _ false = false from unreached]; decide)

theorem judgeFaults_of_reached {s : State} (reached : s.faultLimitReached = true) :
    s.judgeFaults.isRecorded .headDisabled = true ∧ s.judgeFaults.ctl.latch = true := by
  rw [show s.judgeFaults = (s.setHead { s.head with disabled := true }).raise .headDisabled from if_pos reached]
  exact ⟨(State.isRecorded_raise _ _ _).trans (by simp), rfl⟩

/-- The fault count after this deadline has reached the limit (R118). -/
def State.reachesLimit (s : State) : Bool :=
  match s.setup? with
  | some r => decide (r.faultLimit ≤ s.head.faults + 1)
  | none => false

/-- The station with the fire ended at its deadline and its needle answered, the faults not yet judged. -/
def State.deadlineAnswered (s : State) (f : Fire) : State := s.fireFaulted.answerIf f.needle .fault

section Deadline
variable (s : State) (f : Fire)

theorem deadlineAnswered_head :
    (s.deadlineAnswered f).head = { s.head with height := none, fire := none, faults := s.head.faults + 1 } :=
  answerIf_head _ _ _

theorem deadlineAnswered_outcomes : (s.deadlineAnswered f).dec.outcomes =
    match f.needle with
    | some n => answered s.dec.outcomes n .fault
    | none => s.dec.outcomes := answerIf_outcomes s.fireFaulted f.needle .fault

theorem deadlineAnswered_frame :
    Frame (([.headHeight, .headFire, .headFaults, .sticky] : List Part) ++ leaveParts) s (s.deadlineAnswered f) :=
  (fireFaulted_frame s).then (answerIf_frame _ _ _)

theorem deadlineAnswered_reached : (s.deadlineAnswered f).faultLimitReached = s.reachesLimit := by
  have kept : (s.deadlineAnswered f).setup? = s.setup? := setup?_of_mode ((deadlineAnswered_frame s f).get .mode)
  simp only [State.faultLimitReached, State.param, kept, deadlineAnswered_head]
  rfl

/-- FIRE FAULT is set and the deadline counted once, whatever follows beside these. -/
theorem deadline_counted {t : State} {l : List Part} (frame : Frame l (s.deadlineAnswered f) t)
    (counts : CountsExcept (.firesStarted :: leaveCounters) (s.deadlineAnswered f) t)
    (out : Part.sticky ∉ l := by decide) :
    t.isSticky .fireFault = true ∧ StickyExcept [.fireFault] s t ∧
      t.count .fireDeadlines = min (s.count .fireDeadlines + 1) 65535 := by
  let e := s.setHead { s.head with height := none, fire := none, faults := s.head.faults + 1 }
  have word : t.ctl.sticky = (e.setSticky .fireFault).ctl.sticky :=
    (frame.get .sticky out).trans ((answerIf_frame s.fireFaulted f.needle .fault).get .sticky)
  have flags (g : StickyFlag) : t.isSticky g = (e.setSticky .fireFault).isSticky g := by
    simp only [State.isSticky, word]
  refine ⟨?_, fun g other => (flags g).trans (StickyExcept.of_setSticky e _ g other), ?_⟩
  · rw [flags, State.isSticky_setSticky, decide_eq_true rfl, Bool.or_true]
  · calc t.count .fireDeadlines = (s.deadlineAnswered f).count .fireDeadlines := counts _ (by decide)
      _ = s.fireFaulted.count .fireDeadlines := answerIf_counts _ _ _ _ (by decide)
      _ = min (s.count .fireDeadlines + 1) 65535 := State.count_bump (State.setSticky _ _) _ _

end Deadline

/-- Settles O40: the faults are judged with the fire ended, and the pending request is served after that. -/
theorem fireDeadlineCountsAFault : Obligations.FireDeadlineCountsAFault := by
  intro s
  cases firing : s.head.fire with
  | none => exact ⟨s, exec_fireDeadline_of_idle firing, fun _ => rfl, fun _ absent => by cases absent⟩
  | some f =>
    let v := s.deadlineAnswered f
    let u := v.judgeFaults
    have judged := judgeFaults_frame v
    have reached : v.faultLimitReached = s.reachesLimit := deadlineAnswered_reached s f
    have head : u.head = { s.head with
        height := none, fire := none, faults := s.head.faults + 1, disabled := s.head.disabled || s.reachesLimit } := by
      rw [show u.head = _ from judgeFaults_head v, reached, deadlineAnswered_head]
    have outcomes : u.dec.outcomes = _ := (judged.get .outcomes).trans (deadlineAnswered_outcomes s f)
    have frame := (deadlineAnswered_frame s f).then judged
      (n := ([.headHeight, .headFire, .headFaults, .sticky, .headDisabled, .causes, .latch] : List Part) ++ leaveParts)
    have served := serve_frame u
    have counted := (CountsExcept.of_same (judged.get .counts) (.firesStarted :: leaveCounters)).then (serve_counts u)
    obtain ⟨sticky, others, deadlines⟩ := deadline_counted s f (judged.then served
      (n := ([.headHeight, .headCode, .headFire, .headWaiting, .headDisabled, .causes, .latch] : List Part) ++ leaveParts))
      (counted.mono fun _ member => (List.mem_append.1 member).elim id id)
    refine ⟨u.serve, exec_fireDeadline_of_fire firing, ⟨fun absent => (Option.some_ne_none f absent).elim, fun g same => ?_⟩⟩
    obtain rfl := Option.some.inj same
    refine ⟨(serve_faults u).trans (by rw [head]), serve_height (by rw [head]), serve_waiting u, sticky, others, deadlines,
      (served.get .headDisabled).trans (by rw [head]; rfl), fun limit => ?_, fun limit => ?_, fun alone => ?_,
      fun q waiting => ?_⟩
    · obtain ⟨recorded, latched⟩ := judgeFaults_of_reached (reached.trans limit)
      have causes : u.serve.ctl.causes = u.ctl.causes := served.get .causes
      exact ⟨by simpa only [State.isRecorded, causes] using recorded, (served.get .latch).trans latched⟩
    · have unjudged : u = v := judgeFaults_of_unreached (reached.trans limit)
      rw [unjudged]
      exact ((deadlineAnswered_frame s f).then (serve_frame v)).same
    · rw [State.serve_of_alone (by rw [head, alone])]
      exact ⟨by rw [head], outcomes⟩
    · have pending : u.head.waiting = some q := by rw [head, waiting]
      have passed : u.passedSelector q.travel q.needle = s.passedSelector q.travel q.needle :=
        State.passedSelector_of_idx (frame.get .posIndices) _ _
      have refuses : u.Refuses q ↔ s.passedSelector q.travel q.needle = true ∨ s.head.disabled = true ∨
          s.reachesLimit = true ∨ s.head.railGood = false := by
        rw [State.Refuses, passed, head]
        simp only [Bool.or_eq_true, reduceCtorEq, false_or, or_assoc]
      have time : u.fireTime = s.fireTime := fireTime_of_mode (frame.get .mode)
      by_cases stands : s.passedSelector q.travel q.needle = true ∨ s.head.disabled = true ∨ s.reachesLimit = true ∨
          s.head.railGood = false
      · refine (if_pos stands).symm ▸ ?_
        obtain ⟨refused, answers⟩ := State.serve_of_refused pending (refuses.2 stands)
        rw [refused, answers, head, State.refusal, passed, head]
        simp only [Bool.or_eq_true, reduceCtorEq, if_false, true_and]
        exact congrArg (fun l => answered l q.needle _) outcomes
      · refine (if_neg stands).symm ▸ ?_
        obtain ⟨allowed, answers⟩ := State.serve_of_allowed pending (mt refuses.1 stands)
        rw [allowed, answers, time]
        exact ⟨outcomes, rfl⟩

end Sys2Proof.Machine
end

section
/-! PROOF. PLACE, PICK and PARK heard from the line (R128, R129, R131, R132, R139, R143). -/

namespace Sys2Proof.Machine

/-! ### What the judgements leave aside -/

/-- The station with another line, sticky word and counters. -/
def State.aside (s : State) (l : Line) (k : BitVec 14) (n : Vector Nat 41) : State :=
  { s with line := l, ctl := { s.ctl with sticky := k }, counts := n }

section Aside
variable (s : State) (l : Line) (k : BitVec 14) (n : Vector Nat 41)

theorem aside_frame : SameExcept [.transmitList, .sending, .receiver, .idleTime, .guard, .guardDriven, .guardOff,
    .health, .windowErrors, .cleanWindows, .sticky, .counts] s (s.aside l k n) :=
  .of_blanked rfl

theorem State.setCourseFlag_aside (f : CourseFlag) :
    (s.aside l k n).setCourseFlag f = (s.setCourseFlag f).aside l k n := by
  unfold State.setCourseFlag
  split_ifs with set set' set'
  · rfl
  · exact absurd set set'
  · exact absurd set' set
  · cases f <;> rfl

theorem State.miss_aside (cc : CourseCarrier) (flag : Bool) :
    (s.aside l k n).miss cc flag = (s.miss cc flag).aside l k n := by
  cases flag with
  | false => rfl
  | true => exact State.setCourseFlag_aside (s.setCourseCarrier { cc with state := .missed }) l k n _

theorem State.reached_aside (cc : CourseCarrier) (flag : Bool) :
    (s.aside l k n).reached cc flag = (s.reached cc flag).aside l k n := by
  unfold State.reached
  simp only [State.miss_aside]
  show (match (s.carrier cc.carrier).place with | .unknown => _ | .held q => _ | .parked _ => _) = _
  cases (s.carrier cc.carrier).place with
  | unknown => rfl
  | held q => exact (apply_ite (State.aside · l k n) _ _ _).symm
  | parked x =>
    dsimp only
    rw [apply_ite (State.aside · l k n), apply_ite (State.aside · l k n)]
    rfl

theorem State.judgeAt_aside (cc : CourseCarrier) (x : Int) (flag : Bool) :
    (s.aside l k n).judgeAt cc x flag = (s.judgeAt cc x flag).aside l k n := by
  unfold State.judgeAt
  simp only [State.miss_aside, State.reached_aside]
  show (match s.pos.idx with | none => _ | some i => _) = _
  cases s.pos.idx with
  | none => rfl
  | some i =>
    dsimp only
    rw [apply_ite (State.aside · l k n), apply_ite (State.aside · l k n)]

theorem State.judgeFree_aside : (s.aside l k n).judgeFree = s.judgeFree.aside l k n := by
  unfold State.judgeFree
  simp only [State.judgeAt_aside]
  show (match s.judged with | some cc => _ | none => _) = _
  cases s.judged with
  | none => rfl
  | some cc =>
    dsimp only
    cases cc.expected <;> rfl

theorem State.expect_aside (c : Fin 16) (x : Int) : (s.aside l k n).expect c x = (s.expect c x).aside l k n := by
  unfold State.expect
  show (match s.carr.course with | some cc => _ | none => _) = _
  cases s.carr.course with
  | none => rfl
  | some cc =>
    dsimp only
    rw [apply_ite (State.aside · l k n)]
    rfl

theorem State.judgePlace_aside (c : Fin 16) (y : Place) (flag : Bool) :
    (s.aside l k n).judgePlace c y flag = (s.judgePlace c y flag).aside l k n := by
  cases y with
  | held q => rfl
  | unknown =>
    simp only [State.judgePlace, State.miss_aside]
    show (match s.judged with | some cc => _ | none => _) = _
    cases s.judged with
    | none => rfl
    | some cc => exact (apply_ite (State.aside · l k n) _ _ _).symm
  | parked x =>
    simp only [State.judgePlace, State.expect_aside, State.judgeAt_aside]
    show (match (s.expect c x).judged with | some cc => _ | none => _) = _
    cases (s.expect c x).judged with
    | none => rfl
    | some cc => exact (apply_ite (State.aside · l k n) _ _ _).symm

/-- A record and its judgement leave line, sticky flags and counters aside. -/
theorem State.record_aside (c : Fin 16) (y : Place) (res : Option Reservation) (flag : Bool) :
    (s.aside l k n).record c y res flag = (s.record c y res flag).aside l k n := by
  have judged := State.judgePlace_aside (s.setCarrier c ⟨y, res⟩) l k n c y flag
  unfold State.record
  dsimp only
  rw [apply_ite (State.aside · l k n), ← judged]
  rfl

end Aside

/-- The end mark of a notice and a record change the station apart from one another. -/
theorem State.endMark_record (s : State) (c : Fin 16) (y : Place) (res : Option Reservation) :
    s.endMark.record c y res = (s.record c y res).endMark := by
  let u := s.record c y res
  have frame := record_frame s c y res true
  have line : u.line = s.line := frame.same.line_eq
  have sticky : u.ctl.sticky = s.ctl.sticky := frame.get .sticky
  have counts : u.counts = s.counts := frame.get .counts
  have marked : u.endMark.line = s.endMark.line := by simp only [State.endMark, State.setLine, line]
  calc s.endMark.record c y res = (s.aside s.endMark.line s.ctl.sticky s.counts).record c y res := rfl
    _ = u.aside s.endMark.line s.ctl.sticky s.counts := State.record_aside s _ _ _ c y res true
    _ = u.aside u.endMark.line u.ctl.sticky u.counts := by rw [marked, sticky, counts]
    _ = u.endMark := rfl

theorem endMark_record_same (s : State) (c : Fin 16) (y : Place) (res : Option Reservation) :
    SameExcept noticeParts (s.record c y res) (s.endMark.record c y res) := by
  rw [State.endMark_record]
  exact (endMark_frame _).same

/-! ### The places of a record -/

theorem decodePosition_eq (x : Word16) : decodePosition x = if x.toInt = -32768 then none else some x.toInt := by
  have named : x = 0x8000 ↔ x.toInt = -32768 := by
    rw [← BitVec.toInt_inj]
    rfl
  simp only [decodePosition, named]

/-- The place of a notice: UNKNOWN, or PARKED at the needle on the rail (R128). -/
theorem State.placeAt_decodePosition (s : State) (x : Word16) : s.placeAt (decodePosition x) =
    if x.toInt = -32768 then .unknown else .parked (max (-64) (min x.toInt (s.width + 63))) := by
  rw [decodePosition_eq]
  split_ifs
  · rfl
  · simp only [State.placeAt, clampPark, Config.parkBeyond]
    congr 1
    omega

theorem State.record_of_held (s : State) (c : Fin 16) (q : StationNo) (res : Option Reservation) (flag : Bool) :
    s.record c (.held q) res flag = s.setCarrier c ⟨.held q, res⟩ := by
  unfold State.record
  exact ite_self _

/-- A course carrier that does not wait is not judged by a place. -/
theorem State.judgePlace_of_settled {s : State} (settled : ∀ cc, s.carr.course = some cc → cc.state ≠ .waiting)
    (c : Fin 16) (y : Place) (flag : Bool) : s.judgePlace c y flag = s := by
  have judged := State.judged_of_settled settled
  have unexpected (x : Int) : s.expect c x = s := by
    unfold State.expect
    split
    next cc course => exact if_neg fun waits => settled cc course waits.2.1
    · rfl
  cases y with
  | held q => rfl
  | unknown => simp only [State.judgePlace, judged]
  | parked x => simp only [State.judgePlace, unexpected, judged]

/-- Without a course carrier that waits a record is only written. -/
theorem State.record_of_settled {s : State} (settled : ∀ cc, s.carr.course = some cc → cc.state ≠ .waiting)
    (c : Fin 16) (y : Place) (res : Option Reservation) (flag : Bool) :
    s.record c y res flag = s.setCarrier c ⟨y, res⟩ := by
  have judged : (s.setCarrier c ⟨y, res⟩).judgePlace c y flag = s.setCarrier c ⟨y, res⟩ :=
    State.judgePlace_of_settled (s := s.setCarrier c ⟨y, res⟩) settled c y flag
  exact (congrArg (ite _ _) judged).trans (ite_self _)

theorem settled_of_noCarrier {s : State} (noCarrier : s.carr.course = none) :
    ∀ cc, s.carr.course = some cc → cc.state ≠ .waiting := fun cc course => by simp [noCarrier] at course

theorem State.record_of_noCarrier {s : State} (noCarrier : s.carr.course = none) (c : Fin 16) (y : Place)
    (res : Option Reservation) (flag : Bool) : s.record c y res flag = s.setCarrier c ⟨y, res⟩ :=
  State.record_of_settled (settled_of_noCarrier noCarrier) c y res flag

/-! ### PLACE -/

theorem State.withCarrier_of_beyond {k : Byte} (beyond : 15 < k.toNat) (s : State) (f : Fin 16 → State) :
    s.withCarrier k f = s.bump .carrierNoticesIgnored := by
  have decoded : decodeCarrier k = none := dif_neg (by omega)
  simp only [State.withCarrier, decoded]

theorem carrierIgnored_bump (s : State) : CarrierIgnored s (s.endMark.bump .carrierNoticesIgnored) :=
  ⟨((endMark_frame s).then (bump_frame _ _)).same, CountsExcept.of_bump s.endMark _, State.count_bump s.endMark _ _⟩

theorem exec_place_of_hears {k : Byte} {x : Word16} {s : State} (hears : s.hears = true) :
    exec (.place k x) s = .next (s.endMark.withCarrier k fun c => s.endMark.takePlace c x) :=
  congrArg Host.Outcome.next (State.heard_of_hears hears _)

theorem exec_pick_of_hears {q : StationNo} {pass : Word16} {k : Byte} {s : State} (hears : s.hears = true)
    (other : q ≠ s.ctl.station) :
    exec (.pick q pass k) s = .next (s.endMark.withCarrier k fun c => s.endMark.takePick q pass c) :=
  congrArg Host.Outcome.next (State.fromPeer_of_hears hears other _)

theorem exec_park_of_hears {q : StationNo} {pass : Word16} {k : Byte} {x : Word16} {s : State}
    (hears : s.hears = true) (other : q ≠ s.ctl.station) :
    exec (.park q pass k x) s = .next (s.endMark.withCarrier k fun c => s.endMark.takePark pass c x) :=
  congrArg Host.Outcome.next (State.fromPeer_of_hears hears other _)

theorem State.onPin_iff (s : State) (c : Fin 16) : s.onPin c = true ↔ s.carr.pin.carrierOn = some c := beq_iff_eq

/-- What a record written on a notice comes to: the carrier's own place and reservation, and no other record. -/
theorem noticed_record (s : State) (c : Fin 16) (x : Word16) (res : Option Reservation) :
    let y := if x.toInt = -32768 then Place.unknown else .parked (max (-64) (min x.toInt (s.width + 63)))
    let t := s.endMark.record c (s.endMark.placeAt (decodePosition x)) res
    t.carrier c = ⟨y, res⟩ ∧ (∀ d, d ≠ c → t.carrier d = s.carrier d) ∧ SameExcept noticeParts (s.record c y res) t ∧
    (s.carr.course = none → SameExcept (.carrierTable :: noticeParts) s t) := by
  intro y t
  have written : t = s.endMark.record c y res :=
    congrArg (s.endMark.record c · res) (State.placeAt_decodePosition s.endMark x)
  rw [written]
  refine ⟨(State.carrier_record _ _ _ _ _ _).trans (if_pos rfl),
    fun d other => (State.carrier_record _ _ _ _ _ _).trans (if_neg other.symm), endMark_record_same s c y res,
    fun noCarrier => ?_⟩
  rw [State.record_of_noCarrier (s := s.endMark) noCarrier]
  exact ((endMark_frame s).then (setCarrier_frame _ _ _)).same

/-- Settles O42: a number above 15 is counted, the carrier on the pin refused, and any other recorded. -/
theorem placeSetsTheRecord : Obligations.PlaceSetsTheRecord := by
  refine ⟨fun q pass k x s hears beyond => ?_, fun k x s c hears named => ?_⟩
  · have ignored (f : Fin 16 → State) : CarrierIgnored s (s.endMark.withCarrier k f) :=
      State.withCarrier_of_beyond beyond s.endMark f ▸ carrierIgnored_bump s
    refine ⟨⟨_, exec_place_of_hears hears, ignored _⟩, fun other =>
      ⟨⟨_, ?_, ignored fun c => s.endMark.takeTake q pass c⟩, ⟨_, exec_pick_of_hears hears other, ignored _⟩,
        ⟨_, exec_park_of_hears hears other, ignored _⟩⟩⟩
    exact congrArg Host.Outcome.next (State.fromPeer_of_hears hears other _)
  · refine ⟨_, exec_place_of_hears hears, ?_⟩
    rw [State.withCarrier_of_val named]
    refine ⟨fun onPin => ?_, fun offPin => ?_⟩
    · rw [show s.endMark.takePlace c x = s.endMark.setSticky .placeRefused from if_pos ((s.onPin_iff c).2 onPin)]
      exact ⟨((endMark_frame s).then (setSticky_frame _ _)).same, (State.isSticky_setSticky s.endMark _ _).trans (by simp),
        StickyExcept.of_setSticky s.endMark _⟩
    · rw [show s.endMark.takePlace c x = s.endMark.record c (s.endMark.placeAt (decodePosition x)) none from
        if_neg (mt (s.onPin_iff c).1 offPin)]
      exact noticed_record s c x none

/-! ### PICK and PARK -/

theorem State.partnerPick_of_match {s : State} {q : StationNo} {pass : Word16} {c : Fin 16} {cc : CourseCarrier}
    (course : s.carr.course = some cc)
    (waits : cc.source = .partner q ∧ cc.state = .waiting ∧ cc.carrier = c ∧ cc.pass = pass) :
    s.partnerPick q pass c = s.setCourseCarrier { cc with state := .held } := by
  simp only [State.partnerPick, course, if_pos waits]

theorem State.partnerPick_of_other {s : State} {q : StationNo} {pass : Word16} {c : Fin 16}
    (other : ∀ cc, s.carr.course = some cc →
      ¬ (cc.source = .partner q ∧ cc.state = .waiting ∧ cc.carrier = c ∧ cc.pass = pass)) :
    s.partnerPick q pass c = s := by
  unfold State.partnerPick
  split
  next cc course => exact if_neg (other cc course)
  · rfl

/-- The record a PICK heard leaves, before a partner's course is judged by it (R131). -/
def State.picked (s : State) (q : StationNo) (c : Fin 16) : State :=
  if s.onPin c then s.bump .carrierConflicts else s.setCarrier c ⟨.held q, (s.carrier c).reserved⟩

theorem State.takePick_eq (s : State) (q : StationNo) (pass : Word16) (c : Fin 16) :
    s.takePick q pass c = (s.picked q c).partnerPick q pass c := by
  simp only [State.takePick, State.record_of_held, State.picked]

theorem picked_frame (s : State) (q : StationNo) (c : Fin 16) :
    Frame [.carrierTable, .counts] s (s.picked q c) :=
  .ite (bump_frame s _).mono (setCarrier_frame s _ _).mono

/-- A PICK heard (R131, R143). -/
theorem pick_moves {q : StationNo} {pass : Word16} {c : Fin 16} (s : State) :
    let t := s.endMark.takePick q pass c
    (∀ d, d ≠ c → t.carrier d = s.carrier d) ∧
    (t.carrier c).reserved = (s.carrier c).reserved ∧
    (s.carr.pin.carrierOn = some c → t.carrier c = s.carrier c ∧
      t.count .carrierConflicts = min (s.count .carrierConflicts + 1) 65535) ∧
    (s.carr.pin.carrierOn ≠ some c → (t.carrier c).place = .held q ∧ t.counts = s.counts) ∧
    (s.carr.course = none → SameExcept (([.carrierTable, .counts] : List Part) ++ noticeParts) s t) ∧
    SameExcept (([.carrierTable, .counts, .courseCarrier] : List Part) ++ noticeParts) s t ∧
    (∀ cc, s.carr.course = some cc →
      (cc.source = .partner q → cc.state = .waiting → cc.carrier = c → cc.pass = pass →
        t.carr.course = some { cc with state := .held }) ∧
      (cc.source ≠ .partner q ∨ cc.state ≠ .waiting ∨ cc.carrier ≠ c ∨ cc.pass ≠ pass →
        t.carr.course = some cc)) := by
  let u := s.endMark.picked q c
  have frame := (endMark_frame s).then (picked_frame s.endMark q c) (n := ([.carrierTable, .counts] : List Part) ++ noticeParts)
  have course : u.carr.course = s.carr.course := frame.get .courseCarrier
  have partner := partnerPick_frame u q pass c
  have carrier (d : Fin 16) : (u.partnerPick q pass c).carrier d = u.carrier d := partner.carrier_eq d
  have conflict : s.carr.pin.carrierOn = some c → u = s.endMark.bump .carrierConflicts :=
    fun onPin => if_pos ((s.onPin_iff c).2 onPin)
  have moved : s.carr.pin.carrierOn ≠ some c → u = s.endMark.setCarrier c ⟨.held q, (s.carrier c).reserved⟩ :=
    fun offPin => if_neg (mt (s.onPin_iff c).1 offPin)
  intro t
  rw [show t = u.partnerPick q pass c from State.takePick_eq s.endMark q pass c]
  refine ⟨fun d other => ?_, ?_, fun onPin => ⟨?_, ?_⟩, fun offPin => ⟨?_, ?_⟩, fun none => ?_,
    (frame.then partner).same, fun cc running => ⟨fun own waiting same passes => ?_, fun other => ?_⟩⟩
  · rw [carrier]
    by_cases onPin : s.carr.pin.carrierOn = some c
    · rw [conflict onPin]
      rfl
    · rw [moved onPin]
      exact (State.carrier_setCarrier _ _ _ _).trans (if_neg other.symm)
  · rw [carrier]
    by_cases onPin : s.carr.pin.carrierOn = some c
    · rw [conflict onPin]
      rfl
    · rw [moved onPin, State.carrier_setCarrier, if_pos rfl]
  · rw [carrier, conflict onPin]
    rfl
  · rw [partner.count_eq, conflict onPin]
    exact State.count_bump s.endMark _ _
  · rw [carrier, moved offPin, State.carrier_setCarrier, if_pos rfl]
  · refine (partner.get .counts).trans ?_
    rw [moved offPin]
    rfl
  · rw [State.partnerPick_of_other fun cc running => by rw [course, none] at running; cases running]
    exact frame.same
  · rw [State.partnerPick_of_match (course.trans running) ⟨own, waiting, same, passes⟩]
    rfl
  · rw [State.partnerPick_of_other fun dd ran match_ => ?_]
    · exact course.trans running
    · obtain rfl := Option.some.inj ((course.trans running).symm.trans ran)
      obtain ⟨own, waiting, same, passes⟩ := match_
      simp [own, waiting, same, passes] at other

/-- Settles O44: a PICK and a PARK, each by whether the carrier is on the own pin. -/
theorem pickAndParkMoveTheCarrier : Obligations.PickAndParkMoveTheCarrier := by
  intro q pass k c x s other named hears
  refine ⟨⟨_, exec_pick_of_hears hears other, ?_⟩, ⟨_, exec_park_of_hears hears other, ?_⟩⟩
  · rw [State.withCarrier_of_val named]
    exact pick_moves s
  · rw [State.withCarrier_of_val named]
    by_cases onPin : s.carr.pin.carrierOn = some c
    · rw [show s.endMark.takePark pass c x = s.endMark.bump .carrierConflicts from if_pos ((s.onPin_iff c).2 onPin)]
      exact ⟨fun _ _ => rfl, fun _ => ⟨State.count_bump s.endMark _ _, CountsExcept.of_bump s.endMark _,
        ((endMark_frame s).then (bump_frame _ _)).same⟩, fun offPin => absurd onPin offPin⟩
    · rw [show s.endMark.takePark pass c x = s.endMark.record c (s.endMark.placeAt (decodePosition x))
        (clearedFor pass (s.carrier c).reserved) from if_neg (mt (s.onPin_iff c).1 onPin)]
      obtain ⟨record, others, same, kept⟩ := noticed_record s c x (clearedFor pass (s.carrier c).reserved)
      exact ⟨others, fun here => absurd here onPin, fun _ => ⟨by rw [record], by rw [record]; rfl, same, kept⟩⟩

end Sys2Proof.Machine
end

section
/-! PROOF. The course carrier: its forming and its judgements (R136 to R139, R143, R145). -/

namespace Sys2Proof.Machine

/-! ### The context handed to the carrier unit -/

/-- The context begun, before the listen mask of its page (R50). -/
theorem contextBegun_begun (s : State) (a : Active) :
    let u := s.contextBegun a
    u.pos.racking = a.order.racking ∧ u.pos.idx = u.indicesNow ∧ u.course.choice = none ∧
      u.course.cleanRead = false ∧ u.dec.float = 0 ∧ u.claim.run = none := by
  let v := ((s.setCourse { s.course with choice := none, cleanRead := false }).applyRacking a.order.racking)
  let w := v.setDec { v.dec with float := 0 }
  let x := w.setClaim { w.claim with run := none }
  have page := listenPage_frame x a
  have formed : (x.listenPage a).pos.idx = x.indicesNow := page.get .posIndices
  exact ⟨page.get .posRacking, formed.trans page.same.indicesNow.symm, page.get .rowChoice, page.get .cleanRead,
    page.get .float, page.get .openRun⟩

/-! ### The course carrier formed -/

/-- The course carrier that an order forms (R136, R143). -/
def Active.carrierFormed (a : Active) (c : Fin 16) (take : Option TakeState) (x : Option Int) (st : CarrierState) :
    CourseCarrier :=
  { carrier := c, source := a.order.source, pass := a.order.pass, travel := a.travel,
    winFirst := a.order.winFirst, winLast := a.order.winLast, take := take, expected := x, state := st }

/-- The station with the standby take handed over (R136). -/
def State.takeHanded (s : State) : State := s.setCarr { s.carr with standbyTake := none }

section Form
variable {s : State} {a : Active} {c : Fin 16}

theorem State.formCarrier_of_none (without : a.order.carrier = none) :
    s.formCarrier a = s.setCarr { s.carr with standbyTake := none, course := none } := by
  simp only [State.formCarrier, without]

theorem State.formCarrier_of_partner {q : StationNo} (named : a.order.carrier = some c)
    (partner : a.order.source = .partner q) : s.formCarrier a = s.formPartner a c q := by
  simp only [State.formCarrier, named, partner]

theorem State.formCarrier_of_own {y : Take} (named : a.order.carrier = some c) (own : a.order.source = .own)
    (take : s.carr.standbyTake = some y) :
    s.formCarrier a = s.takeHanded.judgeStart (a.carrierFormed c (some y.state) none .waiting) := by
  simp only [State.formCarrier, named, own, State.formOwn, take, Active.carrierFormed, State.takeHanded]

end Form

theorem formCarrier_standbyTake (s : State) (a : Active) : (s.formCarrier a).carr.standbyTake = none := by
  have judged (t : State) (cc : CourseCarrier) : (t.judgeStart cc).carr.standbyTake = t.carr.standbyTake :=
    (judgeStart_frame t cc).get .standbyTake
  unfold State.formCarrier
  split
  · rfl
  · rfl
  · exact judged _ _

/-! ### The judgement at a course start -/

section JudgeStart
variable {s : State} {cc : CourseCarrier}

theorem State.judgeStart_of_denied (denied : cc.take = some .denied) : s.judgeStart cc = s.deny cc := if_pos denied

variable (undenied : cc.take ≠ some .denied)
include undenied

theorem State.judgeStart_of_unknown (unknown : (s.carrier cc.carrier).place = .unknown) :
    s.judgeStart cc = s.miss cc := by
  simp only [State.judgeStart, if_neg undenied, unknown]

theorem State.judgeStart_of_held {q : StationNo} (held : (s.carrier cc.carrier).place = .held q) :
    s.judgeStart cc = s.setCourseCarrier cc := by
  simp only [State.judgeStart, if_neg undenied, held]

/-- A PARKED carrier is expected at its needle, and judged where the pin index stands (R138). -/
theorem State.judgeStart_of_parked {x : Int} {i : Indices} (parked : (s.carrier cc.carrier).place = .parked x)
    (idx : s.pos.idx = some i) :
    let dd := { cc with expected := some x }
    (Beyond cc.travel i.p x → s.judgeStart cc = (s.setCourseCarrier dd).miss dd) ∧
    (i.p = x → s.judgeStart cc = (s.setCourseCarrier dd).reached dd) ∧
    (ShortOf cc.travel i.p x → s.judgeStart cc = s.setCourseCarrier dd) := by
  intro dd
  have shape : s.judgeStart cc = if passedBy cc.travel i.p x then (s.setCourseCarrier dd).miss dd
      else if i.p = x then (s.setCourseCarrier dd).reached dd else s.setCourseCarrier dd := by
    have kept : (s.setCourseCarrier dd).pos.idx = some i := idx
    simp only [State.judgeStart, if_neg undenied, parked, idx]
    rfl
  have passes := passedBy_iff cc.travel i.p x
  rw [shape]
  refine ⟨fun beyond => if_pos (passes.2 beyond), fun here => ?_, fun short => ?_⟩
  · exact (if_neg fun passed => (passes.1 passed).ne here).trans (if_pos here)
  · exact (if_neg (mt passes.1 short.not_beyond)).trans (if_neg short.ne)

end JudgeStart

/-- A SELF carrier as a course start forms and judges it (R136, R138, R139). -/
theorem formCarrier_own {s : State} {a : Active} {c : Fin 16} {y : Take} {i : Indices}
    (named : a.order.carrier = some c) (own : a.order.source = .own) (take : s.carr.standbyTake = some y)
    (idx : s.pos.idx = some i) :
    let t := s.formCarrier a
    let form := a.carrierFormed c
    (y.state = .denied → t.carr.course = some (form (some .denied) none .denied) ∧
      Flagged s t .carrierDenied .carrierDenied ∧ t.carr.pin = s.carr.pin) ∧
    (y.state ≠ .denied →
      ((s.carrier c).place = .unknown → t.carr.course = some (form (some y.state) none .missed) ∧
        Flagged s t .carrierMissed .carrierMissed ∧ t.carr.pin = s.carr.pin) ∧
      (∀ q, (s.carrier c).place = .held q →
        t.carr.course = some (form (some y.state) none .waiting) ∧
        t.course.flags = s.course.flags ∧ t.carr.pin = s.carr.pin) ∧
      (∀ x, (s.carrier c).place = .parked x →
        (Beyond a.travel i.p x → t.carr.course = some (form (some y.state) (some x) .missed) ∧
          Flagged s t .carrierMissed .carrierMissed ∧ t.carr.pin = s.carr.pin) ∧
        (ShortOf a.travel i.p x → t.carr.course = some (form (some y.state) (some x) .waiting) ∧
          t.course.flags = s.course.flags ∧ t.carr.pin = s.carr.pin) ∧
        (i.p = x → y.state = .queued → s.carr.pin = .released →
          t.carr.course = some (form (some .queued) (some x) .missed) ∧
          Flagged s t .carrierMissed .carrierMissed ∧ t.carr.pin = s.carr.pin) ∧
        (i.p = x → y.state = .made → s.ctl.owner = true →
          t.carr.course = some (form (some .made) (some x) .waiting) ∧
          t.course.flags = s.course.flags ∧
          t.carr.pin = (if s.carr.pin = .released then .engaging c a.order.pass s.fireTime true
            else s.carr.pin)))) := by
  intro t form
  let cc := form (some y.state) none .waiting
  let u := s.takeHanded
  have formed : t = u.judgeStart cc := State.formCarrier_of_own named own take
  have missed (dd : CourseCarrier) (v : State) (kept : SameExcept [.standbyTake, .courseCarrier] s v) :
      (v.miss dd).carr.course = some { dd with state := .missed } ∧
        Flagged s (v.miss dd) .carrierMissed .carrierMissed ∧ (v.miss dd).carr.pin = s.carr.pin := by
    have flags : v.course.flags = s.course.flags := kept .courseFlags (by decide)
    obtain ⟨set, raised⟩ := State.miss_flagged v dd
    refine ⟨State.miss_course v dd true, ⟨set, fun clear => raised ?_⟩, (State.miss_pin v dd true).trans (kept .pin (by decide))⟩
    simpa only [State.isCourseFlag, flags] using clear
  have handed : SameExcept [.standbyTake, .courseCarrier] s u := .of_blanked rfl
  have put (dd : CourseCarrier) : SameExcept [.standbyTake, .courseCarrier] s (u.setCourseCarrier dd) :=
    handed.then (setCourseCarrier_frame u dd).same
  rw [formed]
  refine ⟨fun denied => ?_, fun undenied => ?_⟩
  · obtain ⟨course, flagged⟩ := deny_spec u cc
    rw [State.judgeStart_of_denied (congrArg some denied)]
    refine ⟨course.trans ?_, flagged, (deny_frame u cc).get .pin⟩
    simp only [cc, form, Active.carrierFormed, denied]
  · have notDenied : cc.take ≠ some .denied := fun same => undenied (Option.some.inj same)
    refine ⟨fun unknown => ?_, fun q held => ?_, fun x parked => ?_⟩
    · rw [State.judgeStart_of_unknown (s := u) notDenied unknown]
      exact missed cc u handed
    · rw [State.judgeStart_of_held (s := u) notDenied held]
      exact ⟨rfl, rfl, rfl⟩
    · obtain ⟨passes, stands, ahead⟩ := State.judgeStart_of_parked (s := u) notDenied parked idx
      let dd := form (some y.state) (some x) .waiting
      refine ⟨fun beyond => ?_, fun short => ?_, fun here queued _ => ?_, fun here made owner => ?_⟩
      · rw [passes beyond]
        exact missed dd _ (put dd)
      · rw [ahead short]
        exact ⟨rfl, rfl, rfl⟩
      · rw [show u.judgeStart cc = (u.setCourseCarrier dd).reached dd from stands here,
          State.reached_of_queued (s := u.setCourseCarrier dd) (cc := dd) true parked (congrArg some queued)]
        have spec := missed dd _ (put dd)
        rwa [show ({ dd with state := .missed } : CourseCarrier) = form (some .queued) (some x) .missed from by
          simp only [dd, form, Active.carrierFormed, queued]] at spec
      · rw [show u.judgeStart cc = (u.setCourseCarrier dd).reached dd from stands here,
          State.reached_of_made (s := u.setCourseCarrier dd) (cc := dd) true parked (congrArg some made) owner]
        have course : dd = form (some .made) (some x) .waiting := by simp only [dd, form, made]
        by_cases free : s.carr.pin = .released
        · rw [if_pos (show (u.setCourseCarrier dd).carr.pin = .released from free), if_pos free, ← course]
          exact ⟨rfl, rfl, rfl⟩
        · rw [if_neg (show (u.setCourseCarrier dd).carr.pin ≠ .released from free), if_neg free, ← course]
          exact ⟨rfl, rfl, rfl⟩

/-! ### The move of the pin index -/

section Move
variable {s : State} {cc : CourseCarrier} {x old new : Int} (course : s.carr.course = some cc)
  (own : cc.source = .own) (waiting : cc.state = .waiting) (expected : cc.expected = some x)
  (short : ShortOf cc.travel old x)
include course own waiting expected short

theorem State.judgeMove_of_short (ahead : ShortOf cc.travel new x) : s.judgeMove old new = s := by
  simp [State.judgeMove, State.judged_of_waiting course own waiting, expected, (shortOf_iff _ _ _).2 short, ahead.ne,
    passedBy_iff, ahead.not_beyond]

theorem State.judgeMove_of_at (here : new = x) : s.judgeMove old new = s.reached cc := by
  simp [State.judgeMove, State.judged_of_waiting course own waiting, expected, (shortOf_iff _ _ _).2 short, here]

theorem State.judgeMove_of_beyond (beyond : Beyond cc.travel new x) : s.judgeMove old new = s.miss cc := by
  simp [State.judgeMove, State.judged_of_waiting course own waiting, expected, (shortOf_iff _ _ _).2 short, beyond.ne,
    (passedBy_iff _ _ _).2 beyond]

end Move

/-! ### The change of a record -/

section Record
variable {s : State} {cc : CourseCarrier} (course : s.carr.course = some cc) (own : cc.source = .own)
  (waiting : cc.state = .waiting)
include course own waiting

/-- The record of another carrier is only written. -/
theorem State.record_of_other {c : Fin 16} (other : c ≠ cc.carrier) (y : Place) (res : Option Reservation)
    (flag : Bool) : s.record c y res flag = s.setCarrier c ⟨y, res⟩ := by
  let u := s.setCarrier c ⟨y, res⟩
  have judged : u.judged = some cc := State.judged_of_waiting (s := u) course own waiting
  have named : cc.carrier ≠ c := other.symm
  have still : u.judgePlace c y flag = u := by
    cases y with
    | held q => rfl
    | unknown => simp only [State.judgePlace, judged, named, false_and, if_false]
    | parked x =>
      have unexpected : u.expect c x = u := by
        simp only [State.expect, show u.carr.course = some cc from course, named, and_false, if_false]
      simp only [State.judgePlace, unexpected, judged, named, if_false]
  exact (congrArg (ite _ _) still).trans (ite_self _)

/-- The carrier waits where its record now parks it (R139). -/
def State.reparked (s : State) (cc : CourseCarrier) (x : Int) (res : Option Reservation) : State :=
  (s.setCarrier cc.carrier ⟨.parked x, res⟩).setCourseCarrier { cc with expected := some x }

theorem State.record_of_parked {x : Int} (moved : (s.carrier cc.carrier).place ≠ .parked x) (res : Option Reservation)
    (flag : Bool) : s.record cc.carrier (.parked x) res flag =
      (s.reparked cc x res).judgeAt { cc with expected := some x } x flag := by
  let u := s.setCarrier cc.carrier ⟨.parked x, res⟩
  have expects : u.expect cc.carrier x = s.reparked cc x res := by
    simp only [State.expect, show u.carr.course = some cc from course]
    exact if_pos ⟨own, waiting, trivial⟩
  have judged : (s.reparked cc x res).judged = some { cc with expected := some x } :=
    State.judged_of_waiting (s := s.reparked cc x res) rfl own waiting
  rw [State.record_of_changed moved]
  simp only [State.judgePlace]
  rw [show (s.setCarrier cc.carrier ⟨.parked x, res⟩).expect cc.carrier x = s.reparked cc x res from expects]
  simp only [judged, if_true]

theorem State.record_of_unknown (moved : (s.carrier cc.carrier).place ≠ .unknown) (res : Option Reservation)
    (flag : Bool) : s.record cc.carrier .unknown res flag =
      if cc.expected = none then (s.setCarrier cc.carrier ⟨.unknown, res⟩).miss cc flag
      else s.setCarrier cc.carrier ⟨.unknown, res⟩ := by
  have judged : (s.setCarrier cc.carrier ⟨.unknown, res⟩).judged = some cc :=
    State.judged_of_waiting (s := s.setCarrier _ _) course own waiting
  rw [State.record_of_changed moved]
  simp only [State.judgePlace, judged, true_and]

end Record

/-- A carrier MISSED as its record changes (R139, R145). -/
theorem missed_recorded (s : State) (cc : CourseCarrier) (flag : Bool) {u : State}
    (kept : SameExcept [.carrierTable, .courseCarrier] s u) :
    let t := u.miss cc flag
    t.carr.course = some { cc with state := .missed } ∧ t.carr.pin = s.carr.pin ∧
    (flag = true → Flagged s t .carrierMissed .carrierMissed) ∧
    (flag = false → SameExcept [.carrierTable, .courseCarrier] s t) := by
  have flags : u.course.flags = s.course.flags := kept .courseFlags (by decide)
  refine ⟨State.miss_course u cc flag, (State.miss_pin u cc flag).trans (kept .pin (by decide)), ?_, ?_⟩
  · rintro rfl
    obtain ⟨set, raised⟩ := State.miss_flagged u cc
    exact ⟨set, fun clear => raised (by simpa only [State.isCourseFlag, flags] using clear)⟩
  · rintro rfl
    exact kept.then (setCourseCarrier_frame u _).same

theorem reparked_same (s : State) (cc : CourseCarrier) (x : Int) (res : Option Reservation) :
    SameExcept [.carrierTable, .courseCarrier] s (s.reparked cc x res) :=
  ((setCarrier_frame s _ _).then (setCourseCarrier_frame _ _)).same

section Waiting
variable {s : State} {cc : CourseCarrier} {i : Indices} (course : s.carr.course = some cc) (own : cc.source = .own)
  (waiting : cc.state = .waiting)
include course own waiting

/-- A record that becomes PARKED renews the expected needle and is judged there (R139, log 10). -/
theorem parked_judged (idx : s.pos.idx = some i) (res : Option Reservation) (x : Int) (f : Bool)
    (moved : (s.carrier cc.carrier).place ≠ .parked x) :
    let t := s.record cc.carrier (.parked x) res f
    (ShortOf cc.travel i.p x → t.carr.course = some { cc with expected := some x } ∧
      t.course.flags = s.course.flags) ∧
    (Beyond cc.travel i.p x →
      t.carr.course = some { cc with expected := some x, state := .missed } ∧
      t.carr.pin = s.carr.pin ∧ (f = true → Flagged s t .carrierMissed .carrierMissed) ∧
      (f = false → SameExcept [.carrierTable, .courseCarrier] s t)) ∧
    (i.p = x → cc.take = some .made → s.ctl.owner = true → s.carr.pin = .released →
      t.carr.course = some { cc with expected := some x } ∧
      t.carr.pin = .engaging cc.carrier cc.pass s.fireTime true) := by
  let u := s.reparked cc x res
  let dd := { cc with expected := some x }
  have stands : u.pos.idx = some i := idx
  intro t
  rw [show t = u.judgeAt dd x f from State.record_of_parked course own waiting moved res f]
  refine ⟨fun short => ?_, fun beyond => ?_, fun here made owner free => ?_⟩
  · rw [State.judgeAt_of_short stands dd f short]
    exact ⟨rfl, rfl⟩
  · rw [State.judgeAt_of_beyond stands dd f beyond]
    exact missed_recorded s dd f (reparked_same s cc x res)
  · have parked : (u.carrier dd.carrier).place = .parked x :=
      congrArg CarrierRec.place ((s.carrier_setCarrier _ _ _).trans (if_pos rfl))
    rw [State.judgeAt_of_at stands dd f here, State.reached_of_made (s := u) (cc := dd) f parked made owner,
      if_pos (show u.carr.pin = .released from free)]
    exact ⟨rfl, rfl⟩

/-- A record that becomes UNKNOWN misses a carrier without a needle (R139). -/
theorem unknown_judged (res : Option Reservation) (f : Bool) (moved : (s.carrier cc.carrier).place ≠ .unknown) :
    let t := s.record cc.carrier .unknown res f
    (cc.expected = none → t.carr.course = some { cc with state := .missed } ∧
      t.carr.pin = s.carr.pin ∧ (f = true → Flagged s t .carrierMissed .carrierMissed) ∧
      (f = false → SameExcept [.carrierTable, .courseCarrier] s t)) ∧
    (∀ x, cc.expected = some x → ShortOf cc.travel i.p x → t.carr.course = some cc) := by
  intro t
  rw [show t = _ from State.record_of_unknown course own waiting moved res f]
  refine ⟨fun unexpected => ?_, fun x expected _ => ?_⟩
  · rw [if_pos unexpected]
    exact missed_recorded s cc f (setCarrier_frame s _ _).same.mono
  · rw [if_neg (by simp [expected])]
    exact course

theorem State.judgeFree_of_expected {x : Int} (expected : cc.expected = some x) : s.judgeFree = s.judgeAt cc x false := by
  simp only [State.judgeFree, State.judged_of_waiting course own waiting, expected]

end Waiting

theorem State.reached_misses {s : State} {cc : CourseCarrier} (flag : Bool)
    (gone : (s.carrier cc.carrier).place = .unknown ∨ cc.take = some .queued ∨
      ∃ q, (s.carrier cc.carrier).place = .held q ∧ q ≠ s.ctl.station) : s.reached cc flag = s.miss cc flag := by
  obtain unknown | queued | ⟨q, held, elsewhere⟩ := gone
  · exact State.reached_of_unknown flag unknown
  · cases place : (s.carrier cc.carrier).place with
    | unknown => exact State.reached_of_unknown flag place
    | held q => simp [State.reached, place, queued]
    | parked y => exact State.reached_of_queued flag place queued
  · exact State.reached_of_elsewhere flag held elsewhere

/-- Settles O45: the forming, the move of the pin index, the change of a record, the take and the freed pin. -/
theorem pinIndexEngagesTheCarrier : Obligations.PinIndexEngagesTheCarrier := by
  refine ⟨fun s a => ⟨s.contextBegun a, s.handContext_eq a, (contextBegun_frame s a).same, contextBegun_begun s a⟩,
    fun s a => ⟨formCarrier_standbyTake s a, fun without => ?_, fun c q named partner => ?_,
      fun c y i named own take idx => ?_⟩,
    fun s cc x old new course own waiting expected short => ?_,
    fun s cc i res course own waiting idx => ⟨fun c y f other => ?_,
      fun x f moved => parked_judged course own waiting idx res x f moved,
      fun f moved => unknown_judged course own waiting res f moved, fun q _ => ?_, fun denied idle => ?_,
      fun x y expected parked made owner free => ?_, fun expected free gone => ?_⟩⟩
  · rw [State.formCarrier_of_none without]
    exact ⟨rfl, .of_blanked rfl⟩
  · rw [State.formCarrier_of_partner named partner]
    exact ⟨.of_blanked rfl,
      by simp only [State.formPartner, partner]; rfl⟩
  · exact formCarrier_own named own take idx
  · have missed : (s.miss cc).carr.course = some { cc with state := .missed } ∧ (s.miss cc).carr.pin = s.carr.pin ∧
        Flagged s (s.miss cc) .carrierMissed .carrierMissed ∧
        SameExcept [.courseCarrier, .courseFlags, .causes, .latch] s (s.miss cc) :=
      ⟨State.miss_course s cc true, State.miss_pin s cc true, State.miss_flagged s cc, (miss_frame s cc).same⟩
    have reached := State.judgeMove_of_at (new := new) course own waiting expected short
    refine ⟨State.judgeMove_of_short course own waiting expected short, fun beyond => ?_, fun here unknown _ => ?_,
      fun q here held elsewhere _ => ?_, fun y here parked queued _ => ?_, fun y here parked made owner => ?_⟩
    · rw [State.judgeMove_of_beyond course own waiting expected short beyond]
      exact missed
    · rw [reached here, State.reached_of_unknown true unknown]
      exact missed
    · rw [reached here, State.reached_of_elsewhere true held elsewhere]
      exact missed
    · rw [reached here, State.reached_of_queued true parked queued]
      exact missed
    · rw [reached here, State.reached_of_made true parked made owner]
  · rw [State.record_of_other course own waiting other]
    exact (setCarrier_frame s _ _).same
  · rw [State.record_of_held]
    exact course
  · rw [State.judgeTake_of_denied course own waiting denied idle]
    exact deny_spec s cc
  · rw [State.judgeFree_of_expected course own waiting expected]
    refine ⟨State.judgeAt_of_short idx cc false, fun here => ?_, State.judgeAt_of_beyond idx cc false⟩
    rw [State.judgeAt_of_at idx cc false here, State.reached_of_made false parked made owner, if_pos free]
  · rw [State.judgeFree_of_expected course own waiting expected, State.judgeAt_of_at idx cc false rfl,
      State.reached_misses false gone]
    rfl

end Sys2Proof.Machine
end

section
/-! PROOF. The ends of the pin's operations (R133, R140 to R142, R145, R146). -/

namespace Sys2Proof.Machine

/-! ### Notices placed -/

theorem State.count_offer_of_ne (s : State) (n : Notice) {k : Counter} (other : k ≠ n.dropCounter) :
    (s.offer n).count k = s.count k := by
  unfold State.offer
  split
  · rfl
  · rw [State.count_bump, if_neg other.symm]

theorem CountsExcept.of_offer (s : State) (n : Notice) : CountsExcept [n.dropCounter] s (s.offer n) :=
  fun _ other => State.count_offer_of_ne s n fun same => other (by simp [same])

/-- A notice that is offered is placed, whatever follows beside the line and the counters (R156). -/
theorem placed_offer {s b t : State} {l : List Part} {n : Notice} {k : Counter} (kind : n.dropCounter = k)
    (list : b.line.list = s.line.list) (count : b.count k = s.count k) (frame : Frame l (b.offer n) t)
    (out : ∀ p ∈ [Part.transmitList, .counts], p ∉ l := by decide) : Placed n k s.line.list s t := by
  have listed : t.line.list = (b.offer n).line.list := frame.get .transmitList (out _ (by simp))
  have counted : t.count k = (b.offer n).count k := frame.count_eq k (out _ (by simp))
  refine ⟨fun room => ?_, fun full => ?_⟩
  · rw [listed, counted, State.offer_room b n (list ▸ room)]
    exact ⟨list ▸ joined_joinList n b.line.list, count⟩
  · rw [listed, counted, State.offer_full b n (list ▸ full), kind]
    exact ⟨list, by rw [State.count_bump, if_pos rfl, count]⟩

/-! ### The drop point -/

theorem dropReached_iff (cc : CourseCarrier) (drop : Nat) (p : Int) : cc.dropReached drop p = true ↔ AtDrop cc drop p := by
  unfold CourseCarrier.dropReached AtDrop
  cases cc.travel <;> exact decide_eq_true_iff

section Drop
variable {s : State} {cc : CourseCarrier} {c : Fin 16} {p : Word16} (engaged : s.carr.pin = .engaged c p)
include engaged

theorem State.startRelease_of_engaged : s.startRelease = s.setPin (.releasing c p s.fireTime false) := by
  simp only [State.startRelease, engaged]

theorem State.judgeDrop_cases : s.judgeDrop = s ∨ s.judgeDrop = s.setPin (.releasing c p s.fireTime false) := by
  unfold State.judgeDrop
  rw [State.startRelease_of_engaged engaged]
  split
  · split_ifs
    · exact .inr rfl
    · exact .inl rfl
  · exact .inl rfl

variable {r : SetupRec} {i : Indices} (course : s.carr.course = some cc) (own : cc.source = .own)
  (held : cc.state = .held) (taken : s.setup? = some r) (idx : s.pos.idx = some i)
include course own held taken idx

/-- The carrier of a HELD course is released at the drop point, and not before (R141). -/
theorem State.judgeDrop_by_drop :
    (AtDrop cc r.drop i.p → s.judgeDrop = s.setPin (.releasing c p s.fireTime false)) ∧
    (¬ AtDrop cc r.drop i.p → s.judgeDrop = s) := by
  have shape : s.judgeDrop = if cc.source = .own ∧ cc.state = .held ∧ cc.dropReached r.drop i.p = true
      then s.startRelease else s := by
    simp only [State.judgeDrop, course, idx, State.param_of_setup taken]
  have reaches := dropReached_iff cc r.drop i.p
  rw [shape, State.startRelease_of_engaged engaged]
  exact ⟨fun reached => if_pos ⟨own, held, reaches.2 reached⟩, fun short => if_neg fun h => short (reaches.1 h.2.2)⟩

end Drop

/-! ### The confirm of an engagement -/

/-- The station with an engagement confirmed: the carrier is on the pin, and the PICK is placed (R140). -/
def State.engagementConfirmed (s : State) (c : Fin 16) (p : Word16) : State :=
  ((s.setPin (.engaged c p)).setCarrier c ⟨.held s.ctl.station, (s.carrier c).reserved⟩).offer (.pick p c)

theorem engagementConfirmed_frame (s : State) (c : Fin 16) (p : Word16) :
    Frame [.pin, .carrierTable, .transmitList, .counts] s (s.engagementConfirmed c p) :=
  ((setPin_frame s _).then (setCarrier_frame _ _ _) (n := [.pin, .carrierTable])).then (offer_frame _ _)

theorem engagementConfirmed_pin (s : State) (c : Fin 16) (p : Word16) :
    (s.engagementConfirmed c p).carr.pin = .engaged c p :=
  (offer_frame ((s.setPin (.engaged c p)).setCarrier c _) (.pick p c)).get .pin

theorem exec_pinConfirm_of_engaging {s : State} {c : Fin 16} {p : Word16} {d : Nat} {o : Bool}
    (engaging : s.carr.pin = .engaging c p d o) :
    exec .pinConfirm s = .next (if o then (s.engagementConfirmed c p).confirmHeld
      else (s.engagementConfirmed c p).startRelease) := by
  simp only [exec, execPinConfirm, engaging, State.record_of_held, State.engagementConfirmed]

theorem exec_pinConfirm_of_stray {s : State} (idle : (∃ c p, s.carr.pin = .engaged c p) ∨ s.carr.pin = .released) :
    exec .pinConfirm s = .next (s.bump .strayPinConfirms) := by
  obtain ⟨c, p, pin⟩ | pin := idle <;> simp only [exec, execPinConfirm, pin]

/-- The carrier is held by the station and its PICK placed (R140), with nothing else changed but the judgement. -/
structure PickPlaced (s : State) (c : Fin 16) (p : Word16) (t : State) : Prop where
  frame : SameExcept [.pin, .carrierTable, .courseCarrier, .transmitList, .counts] s t
  held : t.carrier c = ⟨.held s.ctl.station, (s.carrier c).reserved⟩
  others : ∀ k, k ≠ c → t.carrier k = s.carrier k
  placed : Placed (.pick p c) .pickDrops s.line.list s t
  counts : CountsExcept [.pickDrops] s t

section Confirmed
variable (s : State) (c : Fin 16) (p : Word16)

theorem engagementConfirmed_carrier (d : Fin 16) : (s.engagementConfirmed c p).carrier d =
    if c = d then ⟨.held s.ctl.station, (s.carrier c).reserved⟩ else s.carrier d :=
  ((offer_frame ((s.setPin (.engaged c p)).setCarrier c _) (.pick p c)).carrier_eq d).trans
    (State.carrier_setCarrier (s.setPin (.engaged c p)) c d _)

theorem engagementConfirmed_counts : CountsExcept [.pickDrops] s (s.engagementConfirmed c p) :=
  CountsExcept.of_offer ((s.setPin (.engaged c p)).setCarrier c _) (.pick p c)

/-- What the end of a confirmed engagement keeps and places, whatever the carrier is then judged to be. -/
theorem confirmed_places {t : State} (frame : Frame [.pin, .courseCarrier] (s.engagementConfirmed c p) t) :
    PickPlaced s c p t := by
  refine ⟨((engagementConfirmed_frame s c p).then frame).same, ?_, fun k other => ?_, ?_, fun k other => ?_⟩
  · rw [frame.carrier_eq, engagementConfirmed_carrier, if_pos rfl]
  · rw [frame.carrier_eq, engagementConfirmed_carrier, if_neg other.symm]
  · exact placed_offer (b := (s.setPin (.engaged c p)).setCarrier c _) (n := .pick p c) rfl rfl rfl frame
  · exact (frame.count_eq k).trans (engagementConfirmed_counts s c p k other)

end Confirmed

theorem State.confirmHeld_of_missed {s : State} {cc : CourseCarrier} (course : s.carr.course = some cc)
    (missed : cc.state = .missed) : s.confirmHeld = s := by
  simp only [State.confirmHeld, course, if_pos missed]

theorem State.confirmHeld_of_awaited {s : State} {cc : CourseCarrier} (course : s.carr.course = some cc)
    (awaited : cc.state ≠ .missed) : s.confirmHeld = (s.setCourseCarrier { cc with state := .held }).judgeDrop := by
  simp only [State.confirmHeld, course, if_neg awaited]

/-- What the confirm makes of the running course's carrier (R140, R141, log 11). -/
theorem confirmHeld_spec (s : State) (c : Fin 16) (p : Word16) (cc : CourseCarrier) (course : s.carr.course = some cc) :
    let t := (s.engagementConfirmed c p).confirmHeld
    (cc.state = .missed → t.carr.course = some cc ∧ t.carr.pin = .engaged c p) ∧
    (cc.state ≠ .missed → t.carr.course = some { cc with state := .held } ∧
      (t.carr.pin = .engaged c p ∨ t.carr.pin = .releasing c p s.fireTime false)) ∧
    (cc.state ≠ .missed → cc.source = .own → ∀ r i, s.setup? = some r → s.pos.idx = some i →
      (AtDrop cc r.drop i.p → t.carr.pin = .releasing c p s.fireTime false) ∧
      (¬ AtDrop cc r.drop i.p → t.carr.pin = .engaged c p)) := by
  let u := s.engagementConfirmed c p
  have frame := engagementConfirmed_frame s c p
  have course' : u.carr.course = some cc := (frame.get .courseCarrier).trans course
  have pin : u.carr.pin = .engaged c p := engagementConfirmed_pin s c p
  let v := u.setCourseCarrier { cc with state := .held }
  have engaged : v.carr.pin = .engaged c p := pin
  have time : v.fireTime = s.fireTime := fireTime_of_mode (frame.get .mode)
  intro t
  refine ⟨fun missed => ?_, fun awaited => ?_, fun awaited own r i taken idx => ?_⟩
  · rw [show t = u from State.confirmHeld_of_missed course' missed]
    exact ⟨course', pin⟩
  · rw [show t = v.judgeDrop from State.confirmHeld_of_awaited course' awaited]
    refine ⟨(judgeDrop_frame v).get .courseCarrier, ?_⟩
    obtain stays | releases := State.judgeDrop_cases engaged
    · exact .inl (stays.symm ▸ engaged)
    · exact .inr (by rw [releases, ← time]; rfl)
  · rw [show t = v.judgeDrop from State.confirmHeld_of_awaited course' awaited]
    obtain ⟨reached, short⟩ := State.judgeDrop_by_drop (s := v) engaged rfl own rfl
      ((setup?_of_mode (frame.get .mode)).trans taken) ((frame.get .posIndices).trans idx)
    refine ⟨fun at_ => ?_, fun before => ?_⟩
    · rw [reached at_, ← time]
      rfl
    · rw [short before]
      exact engaged

/-! ### The confirm of a release -/

theorem exec_pinConfirm_of_silent {s : State} {c : Fin 16} {p : Word16} {d : Nat}
    (releasing : s.carr.pin = .releasing c p d true) : exec .pinConfirm s = .next (s.setPin .released).judgeFree := by
  simp only [exec, execPinConfirm, releasing, if_true]

/-- The carrier parked where the pin let it go, and a carrier that waits judged again (R142). -/
def State.released (s : State) (c : Fin 16) (p : Word16) : State :=
  ((s.setPin .released).record c (.parked s.dropNeedle) (clearedFor p (s.carrier c).reserved) false).judgeFree

theorem exec_pinConfirm_of_releasing {s : State} {c : Fin 16} {p : Word16} {d : Nat}
    (releasing : s.carr.pin = .releasing c p d false) :
    exec .pinConfirm s = .next ((s.released c p).offer (.park p c (some s.dropNeedle))) := by
  simp only [exec, execPinConfirm, releasing, Bool.false_eq_true, if_false]
  rfl

theorem judgeFree_of_noCarrier {s : State} (noCarrier : s.carr.course = none) : s.judgeFree = s := by
  simp only [State.judgeFree, State.judged_of_noCarrier noCarrier]

/-- A record written at the end of an operation, and a carrier that waits judged by it (R139, R142, R145). -/
theorem freed_record (s : State) (c : Fin 16) (y : Place) (res : Option Reservation) :
    let t := ((s.setPin .released).record c y res false).judgeFree
    Frame [.pin, .carrierTable, .courseCarrier] s t ∧ t.carrier c = ⟨y, res⟩ ∧
    (s.carr.course = none → t.carr.pin = .released) := by
  have recorded := record_quiet_frame (s.setPin .released) c y res
  have judged := judgeFree_frame ((s.setPin .released).record c y res false)
  refine ⟨((setPin_frame s .released).then recorded (n := [.pin, .carrierTable, .courseCarrier])).then judged, ?_, fun noCarrier => ?_⟩
  · rw [judged.carrier_eq, State.carrier_record, if_pos rfl]
  · have written : (s.setPin .released).record c y res false = (s.setPin .released).setCarrier c ⟨y, res⟩ :=
      State.record_of_noCarrier (s := s.setPin .released) noCarrier c y res false
    have still : ((s.setPin .released).setCarrier c ⟨y, res⟩).judgeFree = (s.setPin .released).setCarrier c ⟨y, res⟩ :=
      judgeFree_of_noCarrier (s := (s.setPin .released).setCarrier c ⟨y, res⟩) noCarrier
    rw [written, still]
    rfl

theorem dropNeedle_of_idx {s : State} {i : Indices} (idx : s.pos.idx = some i) :
    s.dropNeedle = max (-64) (min i.p ((s.width : Int) + 63)) := by
  simp only [State.dropNeedle, idx, clampPark, Config.parkBeyond]
  omega

theorem clearedFor_eq (p : Word16) (v : Option Reservation) :
    clearedFor p v = (match v with | some y => if y.pass = p then none else v | none => none) := by
  cases v <;> rfl

/-- Settles O47, by the state of the pin. -/
theorem pinConfirmEndsTheOperation : Obligations.PinConfirmEndsTheOperation := by
  refine ⟨fun s i idx => dropNeedle_of_idx idx, fun s r taken => State.fireTime_of_setup taken, clearedFor_eq, fun s => ?_,
    fun s cc c p r i engaged course own held taken idx => State.judgeDrop_by_drop engaged course own held taken idx⟩
  have stray : SameExcept [.counts] s (s.bump .strayPinConfirms) ∧
      CountsExcept [.strayPinConfirms] s (s.bump .strayPinConfirms) ∧
      (s.bump .strayPinConfirms).count .strayPinConfirms = min (s.count .strayPinConfirms + 1) 65535 :=
    ⟨(bump_frame s _).same, CountsExcept.of_bump s _, State.count_bump _ _ _⟩
  cases pin : s.carr.pin with
  | released => exact ⟨_, exec_pinConfirm_of_stray (.inr pin), fun _ _ => stray, nofun, nofun, nofun, nofun, nofun⟩
  | engaged c p =>
    exact ⟨_, exec_pinConfirm_of_stray (.inl ⟨c, p, pin⟩), fun _ _ => stray, fun _ _ _ => stray, nofun, nofun, nofun, nofun⟩
  | engaging c p d o =>
    refine ⟨_, exec_pinConfirm_of_engaging pin, fun _ idle => absurd rfl (idle c p d o), nofun, fun c' p' d' o' same => ?_,
      nofun, nofun, nofun⟩
    obtain ⟨rfl, rfl, rfl, rfl⟩ := Pin.engaging.inj same
    cases o with
    | true =>
      obtain ⟨frame, carrier, others, placed, counts⟩ := confirmed_places s c p (confirmHeld_frame _)
      exact ⟨frame, carrier, others, placed, counts, nofun, fun _ cc course => confirmHeld_spec s c p cc course⟩
    | false =>
      obtain ⟨frame, carrier, others, placed, counts⟩ := confirmed_places s c p (startRelease_frame _).mono
      refine ⟨frame, carrier, others, placed, counts, fun _ => ⟨?_, ?_⟩, nofun⟩
      · have time : (s.engagementConfirmed c p).fireTime = s.fireTime := fireTime_of_mode ((engagementConfirmed_frame s c p).get .mode)
        rw [← time]
        exact congrArg (·.carr.pin) (State.startRelease_of_engaged (engagementConfirmed_pin s c p))
      · exact ((startRelease_frame _).get .courseCarrier).trans ((engagementConfirmed_frame s c p).get .courseCarrier)
  | releasing c p d silent =>
    cases silent with
    | true =>
      refine ⟨_, exec_pinConfirm_of_silent pin, nofun, nofun, nofun, fun _ _ _ _ _ => ?_, nofun, fun c' p' d' same => ?_⟩
      · exact ((setPin_frame s .released).then (judgeFree_frame _)).same
      · refine ⟨(judgeFree_frame (s.setPin .released)).get .carrierTable, (judgeFree_frame (s.setPin .released)).same.line_eq, rfl,
          fun noCarrier => ?_⟩
        rw [judgeFree_of_noCarrier (s := s.setPin .released) noCarrier]
        rfl
    | false =>
      obtain ⟨frame, record, free⟩ := freed_record s c (.parked s.dropNeedle) (clearedFor p (s.carrier c).reserved)
      let u := s.released c p
      have offer := offer_frame u (.park p c (some s.dropNeedle))
      refine ⟨_, exec_pinConfirm_of_releasing pin, nofun, nofun, nofun, fun _ _ _ _ _ => (frame.then offer).same,
        fun c' p' d' same => ?_, nofun⟩
      obtain ⟨rfl, rfl, rfl, _⟩ := Pin.releasing.inj same
      have line : u.line = s.line := frame.same.line_eq
      exact ⟨(offer.carrier_eq c).trans record, offer.same,
        placed_offer (b := u) (n := .park p c (some s.dropNeedle)) rfl (congrArg Line.list line) (frame.count_eq _)
          (.refl [] _), fun k other => (CountsExcept.of_offer u (.park p c _) k other).trans (frame.count_eq k),
        fun noCarrier => (offer.get .pin).trans (free noCarrier)⟩

end Sys2Proof.Machine
end

section
/-! PROOF. A pin operation at its deadline (R133, R140, R142, R145, R146). -/

namespace Sys2Proof.Machine

/-! ### The fault -/

/-- PIN FAULT leaves the pin RELEASED, and beside it changes the sticky flags and the counters alone. -/
theorem State.pinFault_eq (s : State) :
    s.pinFault = (s.setPin .released).aside s.line s.pinFault.ctl.sticky s.pinFault.counts := rfl

/-- Flagged and counted once, whatever follows beside the sticky flags and a PARK that may be dropped. -/
theorem pinFault_counted (s : State) {t : State} {l : List Part} (frame : Frame l s.pinFault t)
    (counts : CountsExcept [.parkDrops] s.pinFault t) (out : Part.sticky ∉ l := by decide) :
    t.isSticky .pinFault = true ∧ StickyExcept [.pinFault] s t ∧
      t.count .pinDeadlines = min (s.count .pinDeadlines + 1) 65535 ∧
      CountsExcept [.pinDeadlines, .parkDrops] s t := by
  let e := (s.setPin .released).setSticky .pinFault
  have word : t.ctl.sticky = e.ctl.sticky := frame.get .sticky out
  have flags (g : StickyFlag) : t.isSticky g = e.isSticky g := by simp only [State.isSticky, word]
  have counted := CountsExcept.of_bump e .pinDeadlines
  refine ⟨?_, fun g other => (flags g).trans (StickyExcept.of_setSticky (s.setPin .released) _ g other), ?_,
    (counted.then counts).mono (by simp)⟩
  · rw [flags, State.isSticky_setSticky, decide_eq_true rfl, Bool.or_true]
  · exact (counts _ (by decide)).trans (State.count_bump e _ _)

theorem aside_same_line (u : State) (k : BitVec 14) (n : Vector Nat 41) :
    SameExcept [.sticky, .counts] u (u.aside u.line k n) :=
  .of_blanked rfl

/-! ### The carrier lost -/

section Lost
variable (s : State) (c : Fin 16) (p : Word16)

/-- The record lost and a carrier that waits judged again, before the fault is told (R133, R140, R142). -/
def State.lost : State :=
  ((s.setPin .released).record c .unknown (clearedFor p (s.carrier c).reserved) false).judgeFree

theorem lost_line : (s.lost c p).line = s.line := (freed_record s c .unknown _).1.same.line_eq

/-- The carrier lost with the fault told and the PARK not yet placed. -/
def State.lostTold : State := (s.lost c p).aside s.line s.pinFault.ctl.sticky s.pinFault.counts

theorem State.loseCarrier_eq : s.pinFault.loseCarrier c p = (s.lostTold c p).offer (.park p c none) := by
  have record := State.record_aside (s.setPin .released) s.line s.pinFault.ctl.sticky s.pinFault.counts c .unknown
    (clearedFor p (s.carrier c).reserved) false
  have free := State.judgeFree_aside ((s.setPin .released).record c .unknown (clearedFor p (s.carrier c).reserved) false)
    s.line s.pinFault.ctl.sticky s.pinFault.counts
  exact congrArg (fun u => u.offer (.park p c none)) ((congrArg State.judgeFree record).trans free)

theorem lostTold_same : SameExcept [.sticky, .counts] (s.lost c p) (s.lostTold c p) := by
  have told := aside_same_line (s.lost c p) s.pinFault.ctl.sticky s.pinFault.counts
  rwa [lost_line] at told

/-- What a lost carrier comes to at a deadline. -/
theorem loseCarrier_spec :
    let t := s.pinFault.loseCarrier c p
    t.carrier c = ⟨.unknown, clearedFor p (s.carrier c).reserved⟩ ∧
    t.isSticky .pinFault = true ∧ StickyExcept [.pinFault] s t ∧
    t.count .pinDeadlines = min (s.count .pinDeadlines + 1) 65535 ∧
    Placed (.park p c none) .parkDrops s.line.list s t ∧ CountsExcept [.pinDeadlines, .parkDrops] s t ∧
    SameExcept [.carrierTable, .transmitList, .counts, .sticky, .pin, .courseCarrier] s t ∧
    SameExcept [.transmitList, .counts, .sticky] (s.lost c p) t ∧
    (s.carr.course = none → t.carr.pin = .released) := by
  obtain ⟨frame, record, free⟩ := freed_record s c .unknown (clearedFor p (s.carrier c).reserved)
  have offer := offer_frame (s.lostTold c p) (.park p c none)
  have dropped : CountsExcept [.parkDrops] s.pinFault ((s.lostTold c p).offer (.park p c none)) :=
    CountsExcept.of_offer (s.lostTold c p) (.park p c none)
  have kept : Frame [.carrierTable, .pin, .courseCarrier, .transmitList, .counts] s.pinFault
      ((s.lostTold c p).offer (.park p c none)) := s.loseCarrier_eq c p ▸ loseCarrier_frame s.pinFault c p
  obtain ⟨sticky, flags, deadlines, counts⟩ := pinFault_counted s kept dropped
  have told := (lostTold_same s c p).then offer.same (n := [.transmitList, .counts, .sticky])
  intro t
  rw [show t = _ from s.loseCarrier_eq c p]
  refine ⟨(offer.carrier_eq c).trans record, sticky, flags, deadlines, ?_, counts, frame.same.then told, told,
    fun noCarrier => (offer.get .pin).trans (free noCarrier)⟩
  exact placed_offer (b := s.lostTold c p) (n := .park p c none) rfl rfl
    ((CountsExcept.of_bump ((s.setPin .released).setSticky .pinFault) .pinDeadlines) _ (by decide)) (.refl [] _)

/-- With no carrier that waits the loss is written and no more. -/
theorem lost_of_settled {s : State} (settled : ∀ cc, s.carr.course = some cc → cc.state ≠ .waiting) (c : Fin 16)
    (p : Word16) : s.lost c p = (s.setPin .released).setCarrier c ⟨.unknown, clearedFor p (s.carrier c).reserved⟩ := by
  have written := State.record_of_settled (s := s.setPin .released) settled c .unknown
    (clearedFor p (s.carrier c).reserved) false
  have judged : ((s.setPin .released).setCarrier c ⟨.unknown, clearedFor p (s.carrier c).reserved⟩).judged = none :=
    State.judged_of_settled settled
  simp only [State.lost, written, State.judgeFree, judged]

end Lost

/-! ### The deadlines -/

theorem exec_engagementDeadline_of_engaging {s : State} {c : Fin 16} {p : Word16} {d : Nat} {o : Bool}
    (engaging : s.carr.pin = .engaging c p d o) :
    exec .engagementDeadline s = .next ((if o then s.faultCarrier else s).pinFault.loseCarrier c p) := by
  simp only [exec, execEngagementDeadline, engaging]

theorem exec_engagementDeadline_of_idle {s : State} (idle : ∀ c p d o, s.carr.pin ≠ .engaging c p d o) :
    exec .engagementDeadline s = .next s := by
  cases pin : s.carr.pin with
  | engaging c p d o => exact absurd pin (idle c p d o)
  | _ => simp only [exec, execEngagementDeadline, pin]

theorem exec_releaseDeadline_of_releasing {s : State} {c : Fin 16} {p : Word16} {d : Nat} {o : Bool}
    (releasing : s.carr.pin = .releasing c p d o) :
    exec .releaseDeadline s = .next (if o then s.pinFault.judgeFree else s.pinFault.loseCarrier c p) := by
  simp only [exec, execReleaseDeadline, releasing]
  cases o <;> rfl

theorem exec_releaseDeadline_of_idle {s : State} (idle : ∀ c p d o, s.carr.pin ≠ .releasing c p d o) :
    exec .releaseDeadline s = .next s := by
  cases pin : s.carr.pin with
  | releasing c p d o => exact absurd pin (idle c p d o)
  | _ => simp only [exec, execReleaseDeadline, pin]

theorem State.faultCarrier_of_course {s : State} {cc : CourseCarrier} (course : s.carr.course = some cc) :
    s.faultCarrier = (s.setCourseCarrier { cc with state := .fault }).setCourseFlag .carrierFault := by
  simp only [State.faultCarrier, course]

theorem State.faultCarrier_of_none {s : State} (without : s.carr.course = none) : s.faultCarrier = s := by
  simp only [State.faultCarrier, without]

/-- The carrier of the running course is at FAULT, and the loss of it judges nothing more (R140). -/
theorem faulted_spec {s : State} {cc : CourseCarrier} (course : s.carr.course = some cc) (c : Fin 16) (p : Word16) :
    let t := s.faultCarrier.pinFault.loseCarrier c p
    t.carr.course = some { cc with state := .fault } ∧ t.carr.pin = .released ∧ Flagged s t .carrierFault .carrierFault := by
  let b := s.faultCarrier
  have faulted : b = (s.setCourseCarrier { cc with state := .fault }).setCourseFlag .carrierFault :=
    State.faultCarrier_of_course course
  have carrier : b.carr.course = some { cc with state := .fault } := by
    rw [faulted]
    exact (setCourseFlag_frame (s.setCourseCarrier _) .carrierFault).get .courseCarrier
  have settled : ∀ dd, b.carr.course = some dd → dd.state ≠ .waiting := fun dd found => by
    obtain rfl := Option.some.inj (carrier.symm.trans found)
    exact CarrierState.noConfusion
  obtain ⟨_, _, _, _, _, _, rest, told, _⟩ := loseCarrier_spec b c p
  have lost := lost_of_settled settled c p
  have kept : SameExcept [.transmitList, .counts, .sticky, .carrierTable, .pin] b (b.pinFault.loseCarrier c p) := by
    have written : SameExcept [.carrierTable, .pin] b (b.lost c p) := by
      rw [lost]
      exact ((setPin_frame b .released).then (setCarrier_frame _ c _)).same
    exact written.then told
  have flagged : Flagged s b .carrierFault .carrierFault :=
    faulted ▸ flagged_setCourseFlag (s.setCourseCarrier { cc with state := .fault }) rfl
  have word : (b.pinFault.loseCarrier c p).course.flags = b.course.flags := kept .courseFlags (by decide)
  have causes : (b.pinFault.loseCarrier c p).ctl.causes = b.ctl.causes := kept .causes (by decide)
  have latch : (b.pinFault.loseCarrier c p).ctl.latch = b.ctl.latch := kept .latch (by decide)
  refine ⟨(kept .courseCarrier (by decide)).trans carrier, ?_, ?_⟩
  · have freed : (b.lost c p).carr.pin = .released := by rw [lost]; rfl
    exact (told .pin (by decide)).trans freed
  · show Flagged s (b.pinFault.loseCarrier c p) _ _
    simpa only [Flagged, State.isCourseFlag, State.isRecorded, word, causes, latch] using flagged

/-- Settles O48: each deadline with its operation in flight, and without it. -/
theorem pinDeadlineLosesTheCarrier : Obligations.PinDeadlineLosesTheCarrier := by
  refine fun s => ⟨?engagement, ?release⟩
  case engagement =>
    by_cases engaging : ∃ c p d o, s.carr.pin = .engaging c p d o
    · obtain ⟨c, p, d, o, pin⟩ := engaging
      refine ⟨_, exec_engagementDeadline_of_engaging pin, fun idle => absurd pin (idle c p d o), fun c' p' d' o' same => ?_⟩
      obtain ⟨rfl, rfl, rfl, rfl⟩ := Pin.engaging.inj (pin.symm.trans same)
      cases o with
      | false =>
        obtain ⟨carrier, sticky, flags, deadlines, placed, counts, rest, told, free⟩ := loseCarrier_spec s c p
        exact ⟨carrier, sticky, flags, deadlines, placed, counts, nofun, fun _ => ⟨rest, told⟩,
          fun noCarrier => ⟨free noCarrier, rest .courseFlags (by decide)⟩⟩
      | true =>
        have fault := faultCarrier_frame s
        obtain ⟨carrier, sticky, flags, deadlines, placed, counts, rest, _, free⟩ := loseCarrier_spec s.faultCarrier c p
        rw [fault.carrier_eq] at carrier
        rw [fault.count_eq] at deadlines
        have list : s.faultCarrier.line.list = s.line.list := fault.get .transmitList
        have word : s.faultCarrier.ctl.sticky = s.ctl.sticky := fault.get .sticky
        refine ⟨carrier, sticky, fun g other => (flags g other).trans (by simp only [State.isSticky, word]), deadlines,
          ?_, fun k other => (counts k other).trans (fault.count_eq k), fun _ cc course => faulted_spec course c p, nofun,
          fun noCarrier => ?_⟩
        · show Placed _ _ _ s (s.faultCarrier.pinFault.loseCarrier c p)
          simpa only [Placed, list, fault.count_eq .parkDrops] using placed
        · have unfaulted := State.faultCarrier_of_none noCarrier
          rw [unfaulted] at free rest
          exact ⟨unfaulted.symm ▸ free noCarrier, unfaulted.symm ▸ rest .courseFlags (by decide)⟩
    · have idle : ∀ c p d o, s.carr.pin ≠ .engaging c p d o := fun c p d o pin => engaging ⟨c, p, d, o, pin⟩
      exact ⟨s, exec_engagementDeadline_of_idle idle, fun _ => rfl, fun c p d o pin => absurd pin (idle c p d o)⟩
  case release =>
    by_cases releasing : ∃ c p d o, s.carr.pin = .releasing c p d o
    · obtain ⟨c, p, d, o, pin⟩ := releasing
      refine ⟨_, exec_releaseDeadline_of_releasing pin, fun idle => absurd pin (idle c p d o), fun c' p' d' o' same => ?_⟩
      obtain ⟨rfl, rfl, rfl, rfl⟩ := Pin.releasing.inj (pin.symm.trans same)
      cases o with
      | false =>
        obtain ⟨carrier, sticky, flags, deadlines, placed, counts, rest, told, free⟩ := loseCarrier_spec s c p
        exact ⟨rest, sticky, flags, deadlines, fun _ => ⟨carrier, told, placed, counts⟩, nofun,
          fun noCarrier => ⟨free noCarrier, rest .courseFlags (by decide)⟩⟩
      | true =>
        have free := judgeFree_frame s.pinFault
        obtain ⟨sticky, flags, deadlines, _⟩ := pinFault_counted s free (.of_same (free.get .counts) _)
        have counts : CountsExcept [.pinDeadlines] s s.pinFault.judgeFree := fun k other =>
          (free.count_eq k).trans (CountsExcept.of_bump ((s.setPin .released).setSticky .pinFault) _ k other)
        have rest := ((pinFault_frame s).then free (n := [.pin, .sticky, .counts, .courseCarrier])).same
        have aside : s.pinFault.judgeFree = (s.setPin .released).judgeFree.aside s.line s.pinFault.ctl.sticky s.pinFault.counts :=
          State.judgeFree_aside (s.setPin .released) _ _ _
        have line : (s.setPin .released).judgeFree.line = s.line := (judgeFree_frame (s.setPin .released)).same.line_eq
        have told := aside_same_line (s.setPin .released).judgeFree s.pinFault.ctl.sticky s.pinFault.counts
        rw [line, ← aside] at told
        refine ⟨rest.mono, sticky, flags, deadlines, nofun,
          fun _ => ⟨rest .carrierTable (by decide), free.same.line_eq, counts, told.mono⟩,
          fun noCarrier => ⟨?_, rest .courseFlags (by decide)⟩⟩
        rw [show (if true = true then s.pinFault.judgeFree else _) = s.pinFault.judgeFree from if_pos rfl,
          judgeFree_of_noCarrier (s := s.pinFault) noCarrier]
        rfl
    · have idle : ∀ c p d o, s.carr.pin ≠ .releasing c p d o := fun c p d o pin => releasing ⟨c, p, d, o, pin⟩
      exact ⟨s, exec_releaseDeadline_of_idle idle, fun _ => rfl, fun c p d o pin => absurd pin (idle c p d o)⟩

end Sys2Proof.Machine
end

section
/-! PROOF. The needles that arrive (R10, R11, R14, R15, R17), a legal edge (R1, R3 to R5, R18) and the reference mark
(R7 to R9). -/

namespace Sys2Proof.Machine

/-! ### The indices and their forming -/

/-- The indices of a station with a setup record (R10, R11, R14). -/
theorem indicesNow_of_setup {s : State} {r : SetupRec} (taken : s.setup? = some r) :
    s.indicesNow = some
      { d := needleIndex r s.ctl.bedBack s.pos.racking
          (s.pos.c + r.offset + signedAnticipation s.pos.tracker r.anticipation)
        s := needleIndex r s.ctl.bedBack s.pos.racking (s.pos.c + r.offset)
        p := needleIndex r s.ctl.bedBack s.pos.racking
          (s.pos.c + r.offset + (if s.ctl.owner then r.pinOffset else 0)) } := by
  simp only [State.indicesNow, taken, Option.map_some]

/-- A forming that leaves the pin index where it is (R10). -/
theorem State.form_of_still {s : State} (still : s.pos.idx.map (·.p) = s.indicesNow.map (·.p)) : s.form = s.reindex := by
  unfold State.form
  dsimp only
  split
  next i j old new =>
    have new : s.indicesNow = some j := new
    rw [old, new] at still
    exact if_pos (Option.some.inj still)
  · rfl

/-- A forming that moves the pin index is reported to the carrier unit (R10, R139, R141). -/
theorem State.form_of_moved {s : State} {i j : Indices} (old : s.pos.idx = some i) (new : s.indicesNow = some j)
    (moved : i.p ≠ j.p) : s.form = (s.reindex.judgeMove i.p j.p).judgeDrop := by
  have formed : s.reindex.pos.idx = some j := new
  simp only [State.form, old, formed, if_neg moved, State.pinMoved]

theorem form_pos (s : State) : s.form.pos = { s.pos with idx := s.indicesNow } := by
  unfold State.form
  dsimp only
  split
  · split
    · rfl
    · exact (pinMoved_frame _ _ _).same.pos_eq
  · rfl

/-- Without a course carrier the forming reports nothing. -/
theorem State.form_of_noCarrier {s : State} (noCarrier : s.carr.course = none) : s.form = s.reindex := by
  by_cases still : s.pos.idx.map (·.p) = s.indicesNow.map (·.p)
  · exact State.form_of_still still
  · have unjudged (i j : Int) : s.reindex.judgeMove i j = s.reindex := by
      simp only [State.judgeMove, State.judged_of_noCarrier (s := s.reindex) noCarrier]
    have undropped : s.reindex.judgeDrop = s.reindex := by
      simp only [State.judgeDrop, show s.reindex.carr.course = none from noCarrier]
    unfold State.form State.pinMoved
    dsimp only
    split
    · rw [unjudged, undropped]
      exact ite_self _
    · rfl

/-! ### The needles that arrive -/

theorem mem_range_from {lo hi n : Nat} : n ∈ (List.range (hi - lo)).map (lo + ·) ↔ lo ≤ n ∧ n < hi := by
  simp only [List.mem_map, List.mem_range]
  exact ⟨fun ⟨k, inside, same⟩ => by omega, fun ⟨low, high⟩ => ⟨n - lo, by omega, by omega⟩⟩

theorem pairwise_range_from (lo k : Nat) : ((List.range k).map (lo + ·)).Pairwise (· < ·) :=
  List.pairwise_map.2 (List.pairwise_lt_range.imp fun h => Nat.add_lt_add_left h lo)

theorem mem_arriving_right {f d : Int} {w n : Nat} : n ∈ arriving .right f d w ↔ f < n ∧ (n : Int) ≤ d ∧ n < w := by
  simp only [arriving, mem_range_from]
  omega

theorem mem_arriving_left {f d : Int} {w n : Nat} : n ∈ arriving .left f d w ↔ (n : Int) < f ∧ d ≤ n ∧ n < w := by
  simp only [arriving, List.mem_reverse, mem_range_from]
  omega

/-- Settles O17: the indices, their forming, and the needles of each direction. -/
theorem needlesArriveAsTheIndicesPassThem : Obligations.NeedlesArriveAsTheIndicesPassThem := by
  refine ⟨fun s r taken => ⟨_, indicesNow_of_setup taken, rfl, rfl, fun lo hi tracker => ?_, fun e tracker => ?_,
      fun e tracker => ?_⟩, fun s => ⟨form_pos s, fun still => State.form_of_still still,
      fun i j old new moved => State.form_of_moved old new moved⟩,
    fun f d w => ⟨fun n => mem_arriving_right, fun n => mem_arriving_left, pairwise_range_from _ _, ?_⟩,
    fun s n ns => ⟨rfl, rfl⟩⟩
  · simp only [tracker, signedAnticipation, add_zero]
    rfl
  · simp only [tracker, signedAnticipation]
    rfl
  · simp only [tracker, signedAnticipation, ← sub_eq_add_neg]
    rfl
  · exact List.pairwise_reverse.2 (pairwise_range_from _ _)

/-! ### The arrivals of a running course -/

theorem arriving_of_not_beyond {dir : Dir} {f d : Int} (w : Nat) (short : ¬ beyond dir f d = true) :
    arriving dir f d w = [] := by
  cases dir <;> simp only [beyond, decide_eq_true_eq, not_lt] at short <;>
    refine List.eq_nil_iff_forall_not_mem.2 fun n member => ?_
  · have := mem_arriving_right.1 member
    omega
  · have := mem_arriving_left.1 member
    omega

theorem frontier_arriveAll (l : List Nat) (s : State) : (arriveAll l s).pos.frontier = s.pos.frontier :=
  (arriveAll_frame l s).get .posFrontier

/-- The frontier after the decision index has come to `d` (R17). -/
def frontierAfter (dir : Dir) (f d : Int) : Int :=
  match dir with
  | .right => max f d
  | .left => min f d

theorem frontierAfter_of_beyond {dir : Dir} {f d : Int} (moved : beyond dir f d = true) : frontierAfter dir f d = d := by
  cases dir <;> simp only [beyond, decide_eq_true_eq] at moved <;> simp only [frontierAfter] <;> omega

theorem frontierAfter_of_short {dir : Dir} {f d : Int} (short : ¬ beyond dir f d = true) : frontierAfter dir f d = f := by
  cases dir <;> simp only [beyond, decide_eq_true_eq] at short <;> simp only [frontierAfter] <;> omega

theorem arrivedFrom_iff (m t : State) : ArrivedFrom m t ↔
    (m.course.active = none ∨ m.pos.frontier = none → t = m) ∧
    ∀ a f i, m.course.active = some a → m.pos.frontier = some f → m.pos.idx = some i →
      t = arriveAll (arriving a.travel f i.d m.width)
        (m.setPos { m.pos with frontier := some (frontierAfter a.travel f i.d) }) ∧
      t.pos.frontier = some (frontierAfter a.travel f i.d) := Iff.rfl

/-- What a station with its indices formed lets arrive (R17, R18). -/
theorem arrivedFrom_arrivals (m : State) : ArrivedFrom m m.arrivals := by
  rw [arrivedFrom_iff]
  refine ⟨fun resting => ?_, fun a f i active frontier idx => ?_⟩
  · unfold State.arrivals
    split
    next active frontier _ => simp [active, frontier] at resting
    · rfl
  · have shape : m.arrivals = if beyond a.travel f i.d then
        arriveAll (arriving a.travel f i.d m.width) (m.setPos { m.pos with frontier := some i.d }) else m := by
      simp only [State.arrivals, active, frontier, idx]
    rw [shape]
    split_ifs with moved
    · rw [frontierAfter_of_beyond moved]
      exact ⟨rfl, frontier_arriveAll _ _⟩
    · rw [frontierAfter_of_short moved, arriving_of_not_beyond _ moved, ← frontier]
      exact ⟨rfl, rfl⟩

/-! ### A legal edge -/

/-- What follows the forming of the indices at a counted edge (R17, R49). -/
theorem counted_frame {s : State} {d : Int} (inside : counted (s.pos.c + d)) :
    Frame turnParts (s.counting d).form (s.legalEdge d) := by
  cases turn : turnAt (s.pos.c + d) s.pos.tracker with
  | none => exact State.legalEdge_of_straight inside turn ▸ (arrivals_frame _).mono
  | some dir => exact State.legalEdge_of_turn inside turn ▸ directionChange_frame _ dir

/-- Outside RUN, with no course and no course carrier, a counted edge is its forming (R10). -/
theorem State.legalEdge_of_resting {s : State} {d : Int} (inside : counted (s.pos.c + d)) (stopped : ∀ r, s.ctl.mode ≠ .run r)
    (noCourse : s.course.active = none) (noCarrier : s.carr.course = none) : s.legalEdge d = (s.counting d).reindex := by
  have formed : (s.counting d).form = (s.counting d).reindex := State.form_of_noCarrier (s := s.counting d) noCarrier
  cases turn : turnAt (s.pos.c + d) s.pos.tracker with
  | none =>
    rw [State.legalEdge_of_straight inside turn, formed]
    exact State.arrivals_of_noCourse (s := (s.counting d).reindex) noCourse
  | some dir =>
    rw [State.legalEdge_of_turn inside turn, formed]
    exact State.directionChange_of_notRun (s := (s.counting d).reindex) stopped dir

/-- Settles O18: an edge that stands still, one at a limit, and one that is counted. -/
theorem legalEdgeMovesTheCount : Obligations.LegalEdgeMovesTheCount := by
  intro a b s d legal
  let p := s.takePhase a b
  have phased := takePhase_frame s a b
  by_cases still : d = 0
  · refine ⟨p, (exec_encoderEdge_of_quadrature legal).trans (by rw [if_pos still]), rfl, rfl, fun _ => phased.same, ?_⟩
    exact ⟨fun moves => absurd still moves, fun moves => absurd still moves, fun moves => absurd still moves,
      fun moves => absurd still moves⟩
  have next : exec (.encoderEdge a b) s = .next (p.legalEdge d) :=
    (exec_encoderEdge_of_quadrature legal).trans (by rw [if_neg still])
  by_cases inside : counted (s.pos.c + d)
  · have after := counted_frame (s := p) inside
    have formed := form_frame (p.counting d)
    obtain ⟨phaseA, phaseB⟩ : (p.legalEdge d).pos.phaseA = a ∧ (p.legalEdge d).pos.phaseB = b :=
      ((formed.then after (n := ([.posIndices] : List Part) ++ turnParts ++ judgeParts)).get .posPhase)
    refine ⟨_, next, phaseA, phaseB, fun same => absurd same still, fun _ _ => ⟨?_, ?_⟩,
      fun _ outside => absurd inside outside, fun _ _ straight => ?_, fun _ _ stopped noCourse noCarrier => ?_⟩
    · exact (formed.then after (n := ([.posIndices] : List Part) ++ turnParts ++ judgeParts)).get .posC
    · exact (formed.then after (n := ([.posIndices] : List Part) ++ turnParts ++ judgeParts)).get .posTracker
    · rw [State.legalEdge_of_straight (s := p) inside straight]
      exact arrivedFrom_arrivals _
    · rw [State.legalEdge_of_resting (s := p) inside stopped noCourse noCarrier]
      exact ⟨((phased.then (counting_frame p d) (n := [.posPhase, .posC, .posTracker])).then (reindex_frame _)).same, rfl⟩
  · refine ⟨_, next, ?_⟩
    rw [State.legalEdge_of_limit (s := p) inside]
    exact ⟨rfl, rfl, fun same => absurd same still, fun _ within => absurd within inside,
      fun _ _ => ⟨(phased.then (setSticky_frame p _)).same, (State.isSticky_setSticky p _ _).trans (by simp),
        StickyExcept.of_setSticky p _⟩, fun _ within => absurd within inside, fun _ within => absurd within inside⟩

/-! ### The reference mark -/

/-- A load off Kref by more than the tolerance, after the first one (R9). -/
def State.slipped (s : State) (r : SetupRec) : Bool :=
  s.pos.referenced && decide (r.tolerance < (s.pos.c - r.kref).natAbs)

section Slip
variable {s : State} {r : SetupRec}

theorem State.checkSlip_of_slipped (slipped : s.slipped r = true) : s.checkSlip r = (s.setSticky .slip).raise .slip :=
  if_pos slipped

theorem State.checkSlip_of_close (close : s.slipped r = false) : s.checkSlip r = s :=
  if_neg (by rw [show (s.pos.referenced && _) = false from close]; decide)

end Slip

/-- What the slip check leaves of the flags, the causes and the latch (R9, R184, R185). -/
structure SlipShown (s : State) (slipped : Bool) (t : State) : Prop where
  sticky : ∀ f, t.isSticky f = (s.isSticky f || (slipped && decide (.slip = f)))
  causes : ∀ c, t.isRecorded c = (s.isRecorded c || (slipped && decide (.slip = c)))
  latch : t.ctl.latch = (s.ctl.latch || slipped)

theorem checkSlip_spec (s : State) (r : SetupRec) : SlipShown s (s.slipped r) (s.checkSlip r) := by
  cases slipped : s.slipped r with
  | true =>
    rw [State.checkSlip_of_slipped slipped]
    exact ⟨fun f => State.isSticky_setSticky s _ f, fun c => State.isRecorded_raise (s.setSticky .slip) _ c,
      (Bool.or_true _).symm⟩
  | false =>
    rw [State.checkSlip_of_close slipped]
    exact ⟨by simp, by simp, by simp⟩

theorem exec_referenceMark_of_right {s : State} {r : SetupRec} {e : Int} (right : s.pos.tracker = .right e)
    (taken : s.setup? = some r) : exec .referenceMark s = .next (s.loadReference r) := by
  simp only [exec, execReferenceMark, right, taken]

theorem exec_referenceMark_of_ignored {s : State} (ignored : (∀ e, s.pos.tracker ≠ .right e) ∨ s.ctl.mode = .setup) :
    exec .referenceMark s = .next s := by
  simp only [exec, execReferenceMark]
  split
  next e r right taken =>
    obtain other | cleared := ignored
    · exact absurd right (other e)
    · simp [State.setup?, cleared, Mode.setup?] at taken
  · rfl

theorem Mode.referenced_of_setup {m : Mode} {r : SetupRec} (taken : m.setup? = some r) : m.referenced = .run r := by
  cases m with
  | setup => cases taken
  | ready x | run x =>
    obtain rfl := Option.some.inj taken
    rfl

/-- The station loaded at Kref, its indices not yet formed. -/
def State.loaded (s : State) (r : SetupRec) : State := ((s.checkSlip r).atKref r).intoRun

theorem loaded_frame (s : State) (r : SetupRec) :
    Frame [.posC, .posTracker, .posReferenced, .mode] (s.checkSlip r) (s.loaded r) :=
  (atKref_frame _ r).then (intoRun_frame _)

theorem loaded_eq {s : State} {r : SetupRec} (taken : s.setup? = some r) :
    s.loaded r = ((s.checkSlip r).setPos { s.pos with c := r.kref, tracker := .right r.kref, referenced := true }).setCtl
      { (s.checkSlip r).ctl with mode := .run r } := by
  have pos : (s.checkSlip r).pos = s.pos := (checkSlip_frame s r).same.pos_eq
  have mode : (s.checkSlip r).ctl.mode.referenced = .run r :=
    Mode.referenced_of_setup ((setup?_of_mode ((checkSlip_frame s r).get .mode)).trans taken)
  simp only [State.loaded, State.intoRun, State.atKref, pos]
  exact congrArg (fun m => State.setCtl _ { (s.checkSlip r).ctl with mode := m }) mode

/-- Settles O21: the load, its slip check, and the arrivals that follow it. -/
theorem referenceMarkLoadsKref : Obligations.ReferenceMarkLoadsKref := by
  refine fun s => ⟨exec_referenceMark_of_ignored, fun r e right taken => ?_⟩
  let u := s.loaded r
  have formed := form_frame u
  have arrives := arrivals_frame u.form
  have rest := formed.then arrives (n := ([.posIndices, .posFrontier] : List Part) ++ judgeParts ++ arrivalParts)
  obtain ⟨sticky, causes, latch⟩ := checkSlip_spec s r
  have word : u.form.arrivals.ctl.sticky = (s.checkSlip r).ctl.sticky := rest.get .sticky
  have flags (f : StickyFlag) : u.form.arrivals.isSticky f = (s.checkSlip r).isSticky f := by
    simp only [State.isSticky, word]
  refine ⟨u.form.arrivals, exec_referenceMark_of_right right taken, rest.get .posC, rest.get .posTracker,
    rest.get .posReferenced, ?_, ?_, ?_, fun f other => ?_, fun slipped => ⟨?_, ?_⟩, fun noCourse noCarrier => ?_⟩
  · exact (rest.get .mode).trans (congrArg (·.ctl.mode) (loaded_eq taken))
  · exact (congrArg (fun v => ArrivedFrom v.form u.form.arrivals) (loaded_eq taken)).mp (arrivedFrom_arrivals u.form)
  · exact (flags _).trans ((sticky .slip).trans (by simp; rfl))
  · refine (flags f).trans ((sticky f).trans ?_)
    rw [decide_eq_false fun same => other (by simp [← same]), Bool.and_false, Bool.or_false]
  · refine rest.rises.causes _ ((causes .slip).trans ?_)
    rw [show s.slipped r = true from slipped]
    simp
  · refine rest.rises.latch (latch.trans ?_)
    rw [show s.slipped r = true from slipped, Bool.or_true]
  · have slip := checkSlip_frame s r
    have noCarrier' : u.carr.course = none := (slip.get .courseCarrier).trans noCarrier
    have noCourse' : u.reindex.course.active = none := (slip.get .active).trans noCourse
    rw [State.form_of_noCarrier noCarrier', State.arrivals_of_noCourse noCourse']
    refine ⟨?_, rfl, fun c other => (causes c).trans ?_, (causes .slip).trans (by simp; rfl), latch⟩
    · exact ((slip.then (loaded_frame s r) (n := [.posC, .posTracker, .posReferenced, .mode, .sticky, .causes, .latch])).then
        (reindex_frame u)).same
    · rw [decide_eq_false fun same => other (by simp [← same]), Bool.and_false, Bool.or_false]

end Sys2Proof.Machine
end

section
/-! PROOF. A CLAIM heard from a peer (R100 to R104). -/

namespace Sys2Proof.Machine

/-! ### The page of a row -/

theorem ClaimUnit.pageOf_eq_some {u : ClaimUnit} {row : Word16} {p : Page} (bound : u.pageOf row = some p) :
    p.row = row ∧ (u.page0 = some p ∨ u.page1 = some p) := by
  unfold ClaimUnit.pageOf at bound
  split at bound
  next q first =>
    split at bound
    next same =>
      obtain rfl := Option.some.inj bound
      exact ⟨same, .inl first⟩
    · split at bound
      next x second =>
        obtain ⟨same, found⟩ := Option.ite_none_right_eq_some.1 bound
        obtain rfl := Option.some.inj found
        exact ⟨same, .inr second⟩
      · cases bound
  next =>
    split at bound
    next x second =>
      obtain ⟨same, found⟩ := Option.ite_none_right_eq_some.1 bound
      obtain rfl := Option.some.inj found
      exact ⟨same, .inr second⟩
    · cases bound

theorem ClaimUnit.pageOf_eq_none {u : ClaimUnit} {row : Word16} (unbound : u.pageOf row = none) :
    (∀ p, u.page0 = some p → p.row ≠ row) ∧ ∀ p, u.page1 = some p → p.row ≠ row := by
  unfold ClaimUnit.pageOf at unbound
  refine ⟨fun p first same => ?_, fun p second same => ?_⟩
  · simp [first, same] at unbound
  · cases first : u.page0 with
    | none => simp [first, second, same] at unbound
    | some q => by_cases here : q.row = row <;> simp [first, second, same, here] at unbound

/-- A change that keeps rows changes the page of the row. -/
theorem ClaimUnit.pageOf_changePage {f : Page → Page} (keeps : ∀ p, (f p).row = p.row) (u : ClaimUnit) (row : Word16) :
    (u.changePage row f).pageOf row = (u.pageOf row).map f := by
  have second : (match onRow row f u.page1 with
      | some q => if q.row = row then some q else none
      | none => none) = Option.map f (match u.page1 with
      | some q => if q.row = row then some q else none
      | none => none) := by
    cases u.page1 with
    | none => rfl
    | some q => by_cases here : q.row = row <;> simp [onRow, here, keeps]
  unfold ClaimUnit.pageOf ClaimUnit.changePage
  cases u.page0 with
  | none => exact second
  | some p =>
    by_cases here : p.row = row
    · simp [onRow, here, keeps]
    · simp only [onRow, Option.map_some, here, if_false]
      exact second

theorem otherPageKept_changePage (s : State) (row : Word16) (f : Page → Page) {t : State}
    (page0 : t.claim.page0 = onRow row f s.claim.page0) (page1 : t.claim.page1 = onRow row f s.claim.page1) :
    OtherPageKept row s t := by
  refine ⟨fun p bound other => ?_, fun p bound other => ?_⟩
  · rw [page0, bound]
    exact congrArg some (if_neg other)
  · rw [page1, bound]
    exact congrArg some (if_neg other)

/-! ### The entries of a claimed run -/

theorem changeFrom_getElem? (f : PageEntry → PageEntry) (lo k n : Nat) (l : List PageEntry) :
    (changeFrom f lo k l)[n]? = if lo ≤ n ∧ n < lo + k then l[n]?.map f else l[n]? := by
  induction lo, k, l using changeFrom.induct generalizing n with
  | case1 lo k => simp [changeFrom]
  | case2 l => simp [changeFrom]
  | case3 k e l ih =>
    cases n with
    | zero => simp [changeFrom]
    | succ n => simp [changeFrom, ih]
  | case4 lo k e l ih =>
    cases n with
    | zero => simp [changeFrom]
    | succ n => simp [changeFrom, ih, Nat.add_right_comm]

theorem Page.entry_eq {p : Page} {n : Nat} (inside : n < p.entries.length) : p.entry n = p.entries[n] :=
  List.getD_eq_getElem _ _ inside

/-- The entry of a needle after a claim: heard if it lies in the claimed run, unchanged otherwise (R102). -/
theorem Page.entry_apply {p : Page} {n : Nat} (inside : n < p.entries.length) (sender : StationNo) (lo k : Nat)
    (loop : Bool) : (p.apply sender lo k loop).entry n =
      if lo ≤ n ∧ n < lo + k then (p.entry n).hear sender loop else p.entry n := by
  have shown := changeFrom_getElem? (fun e => e.hear sender loop) lo k n p.entries
  have after : n < (p.apply sender lo k loop).entries.length := (changeFrom_length _ _ _ _).symm ▸ inside
  rw [Page.entry_eq inside, Page.entry_eq after]
  refine Option.some.inj ?_
  rw [← List.getElem?_eq_getElem after]
  refine shown.trans ?_
  rw [List.getElem?_eq_getElem inside, Option.map_some]
  exact (apply_ite some _ _ _).symm

theorem hear_bits (e : PageEntry) (sender : StationNo) (loop : Bool) :
    (e.hear sender loop).own = e.own ∧ ∀ k : Nat, k < 16 →
      (e.hear sender loop).heard.getLsbD k = (e.heard.getLsbD k || decide (k = sender.toNat)) ∧
      (e.hear sender loop).looped.getLsbD k =
        (e.looped.getLsbD k || (decide (k = sender.toNat) && loop)) := by
  refine ⟨rfl, fun k _ => ⟨?_, ?_⟩⟩
  · simp [PageEntry.hear, getLsbD_setBit _ _ _ sender.isLt, eq_comm]
  · cases loop <;> simp [PageEntry.hear, getLsbD_setBit _ _ _ sender.isLt, eq_comm]

/-! ### The doubles of a claimed run -/

theorem drop_take_eq_map {l : List PageEntry} {lo k : Nat} (fits : lo + k ≤ l.length) (d : PageEntry) :
    (l.drop lo).take k = (List.range k).map fun i => l.getD (lo + i) d := by
  refine List.ext_getElem (by simp; omega) fun i _ inside => ?_
  have within : lo + i < l.length := by simp at inside; omega
  simp [List.getD_eq_getElem?_getD, within]

theorem countP_claimed {p : Page} {lo k : Nat} (fits : lo + k ≤ p.entries.length) (f : PageEntry → Bool) :
    ((p.entries.drop lo).take k).countP f = (((List.range k).map (lo + ·)).countP fun n => f (p.entry n)) := by
  rw [drop_take_eq_map fits ⟨0, 0, .none⟩, List.countP_map, List.countP_map]
  rfl

/-! ### The CLAIM of a peer -/

theorem decodeResult_eq_none (x : Byte) : decodeResult x = none ↔ 4 < x.toNat := by
  unfold decodeResult
  split_ifs with h0 h1 h2 h3 h4
  iterate 5 subst x; simp
  exact ⟨fun _ => by bv_omega, fun _ => rfl⟩

theorem decodeResult_loop {x : Byte} {r : NeedleResult} (decoded : decodeResult x = some r) :
    (r == .loop) = (x == 1) := by
  unfold decodeResult at decoded
  split_ifs at decoded <;> cases decoded <;> subst x <;> rfl

/-- A CLAIM of a run that its page takes in (R101, R102). -/
def State.claimed (s : State) (sender : StationNo) (b : ClaimBody) : State :=
  (s.setClaim (s.claim.changePage b.row fun p =>
    p.apply sender b.first.toNat (min b.count.toNat (s.width - b.first.toNat)) (b.result == 1))).bump .claimsApplied

theorem exec_claim_of_hears {sender : StationNo} {b : ClaimBody} {s : State} (hears : s.hears = true)
    (other : sender ≠ s.ctl.station) : exec (.claim sender b) s = .next (s.endMark.takeClaim sender b) :=
  congrArg Host.Outcome.next (State.fromPeer_of_hears hears other _)

theorem State.takeClaim_of_unbound {s : State} {b : ClaimBody} (unbound : s.claim.pageOf b.row = none)
    (sender : StationNo) : s.takeClaim sender b = s := by
  simp only [State.takeClaim, unbound]

section Bound
variable {s : State} {b : ClaimBody} {p : Page} (bound : s.claim.pageOf b.row = some p) (sender : StationNo)
include bound

theorem State.takeClaim_of_outside (outside : s.width ≤ b.first.toNat ∨ b.count = 0 ∨ 4 < b.result.toNat) :
    s.takeClaim sender b = s.bump .claimsOutOfRange := by
  simp only [State.takeClaim, bound]
  split
  · rfl
  next x decoded =>
    have coded : ¬ 4 < b.result.toNat := fun beyond => by
      rw [(decodeResult_eq_none _).2 beyond] at decoded
      cases decoded
    refine if_pos (outside.imp_right fun none => ?_)
    rw [none.resolve_right coded]
    rfl

theorem State.takeClaim_of_inside (inside : ¬ (s.width ≤ b.first.toNat ∨ b.count = 0 ∨ 4 < b.result.toNat)) :
    s.takeClaim sender b = s.claimed sender b := by
  simp only [not_or] at inside
  obtain ⟨onBed, counts, coded⟩ := inside
  have positive : b.count.toNat ≠ 0 := fun none => counts (BitVec.eq_of_toNat_eq none)
  obtain ⟨x, decoded⟩ := Option.ne_none_iff_exists'.1 (mt (decodeResult_eq_none b.result).1 coded)
  have range : ¬ (s.width ≤ b.first.toNat ∨ b.count.toNat = 0) := not_or.2 ⟨onBed, positive⟩
  simp only [State.takeClaim, bound, decoded, if_neg range, decodeResult_loop decoded, State.claimed]

end Bound

/-- Settles O36: the page of a row, a peer's CLAIM by whether it names a run on the bed, and the doubles of a run. -/
theorem claimUpdatesThePageOfItsRow : Obligations.ClaimUpdatesThePageOfItsRow := by
  refine ⟨fun s row => ⟨fun p => ClaimUnit.pageOf_eq_some, ClaimUnit.pageOf_eq_none⟩,
    fun sender b s hears other => ⟨_, exec_claim_of_hears hears other, fun unbound => ?_, fun p bound => ?_⟩,
    fun p sender lo k fits => ⟨⟨?_, fun deaf => ?_, fun listens => ?_⟩, rfl, rfl⟩⟩
  · rw [State.takeClaim_of_unbound (s := s.endMark) unbound]
    exact (endMark_frame s).same
  · split_ifs with outside
    · rw [State.takeClaim_of_outside (s := s.endMark) bound sender outside]
      exact ⟨((endMark_frame s).then (bump_frame _ _)).same, CountsExcept.of_bump s.endMark _, State.count_bump s.endMark _ _⟩
    · let k := min b.count.toNat (s.width - b.first.toNat)
      let f := fun q : Page => q.apply sender b.first.toNat k (b.result == 1)
      rw [State.takeClaim_of_inside (s := s.endMark) bound sender outside]
      refine ⟨(((endMark_frame s).then (changePage_frame s.endMark b.row f) (n := .pages :: noticeParts)).then (bump_frame _ _)).same,
        CountsExcept.of_bump (State.setClaim _ _) _, State.count_bump (State.setClaim _ _) _ _,
        otherPageKept_changePage s b.row f rfl rfl, f p, ?_, rfl, rfl, changeFrom_length _ _ _ _, fun n inside => ?_⟩
      · exact (ClaimUnit.pageOf_changePage (f := f) (fun _ => rfl) s.claim b.row).trans (by rw [bound]; rfl)
      · have run : b.first.toNat ≤ n ∧ n < b.first.toNat + k ↔
            b.first.toNat ≤ n ∧ n < b.first.toNat + b.count.toNat ∧ n < s.width := by
          simp only [k]
          omega
        have entry := Page.entry_apply inside sender b.first.toNat k (b.result == 1)
        simp only [run] at entry
        rw [show (f p).entry n = _ from entry]
        split_ifs with claimed
        · obtain ⟨own, bits⟩ := hear_bits (p.entry n) sender (b.result == 1)
          exact ⟨own, fun outside => absurd claimed outside, fun _ => bits⟩
        · exact ⟨rfl, fun _ => rfl, fun inside => absurd inside claimed⟩
  · exact congrArg (fun m => min (p.doubles + m) 65535) (countP_claimed fits fun e => e.doubles sender)
  · simp [Page.apply, deaf]
  · simp only [Page.apply, listens, Bool.and_self, if_true]
    exact congrArg (fun m => min (p.lateDoubles + m) 65535) (countP_claimed fits fun e => e.lateFor sender)

end Sys2Proof.Machine
end

section
/-! PROOF. The frames of the line: cells, bits and bodies, as they are sent and as they are heard (R149 to R153, R159,
R161, R163, R169, R170, R172, R174). -/

namespace Sys2Proof.Machine

/-! ### Cells -/

/-- The cells of some bits, as they are heard. -/
def heardCells (bits : List Bool) : List (HeardHalf × HeardHalf) :=
  bits.map fun b => (some (cellOf b).1, some (cellOf b).2)

theorem receive_heardCells (bits : List Bool) (cells : List (HeardHalf × HeardHalf)) (heard : List Bool) :
    receive heard (heardCells bits ++ cells) = receive (heard ++ bits) cells := by
  induction bits generalizing heard with
  | nil => simp [heardCells]
  | cons b bits ih =>
    have rest := ih (heard ++ [b])
    rw [List.append_assoc] at rest
    cases b <;> exact rest

/-! ### Numbers as bits -/

theorem bitsOf_length (k n : Nat) : (bitsOf k n).length = k := by
  induction k with
  | zero => rfl
  | succ k ih => simp [bitsOf, ih]

theorem foldl_bitsOf (k n m : Nat) :
    (bitsOf k n).foldl (fun a b => 2 * a + b.toNat) m = m * 2 ^ k + n % 2 ^ k := by
  induction k generalizing m with
  | zero => simp [bitsOf, Nat.mod_one]
  | succ k ih =>
    rw [bitsOf, List.foldl_cons, ih, Nat.mod_pow_succ, Nat.toNat_testBit, Nat.pow_succ]
    ring

theorem numberOf_bitsOf (k n : Nat) : numberOf (bitsOf k n) = n % 2 ^ k := by
  rw [numberOf, foldl_bitsOf, Nat.zero_mul, Nat.zero_add]

theorem ofNat_toNat_mod {w : Nat} (x : BitVec w) : BitVec.ofNat w (x.toNat % 2 ^ w) = x := by
  rw [Nat.mod_eq_of_lt x.isLt, BitVec.ofNat_toNat, BitVec.setWidth_eq]

theorem bitsOfBytes_cons (x : Byte) (l : List Byte) : bitsOfBytes (x :: l) = bitsOf 8 x.toNat ++ bitsOfBytes l := rfl

theorem bitsOfBytes_length (l : List Byte) : (bitsOfBytes l).length = 8 * l.length := by
  induction l with
  | nil => rfl
  | cons x l ih =>
    rw [bitsOfBytes_cons, List.length_append, bitsOf_length, ih, List.length_cons]
    omega

/-- Bytes sent are bytes heard, whatever follows them (R152). -/
theorem bytesOf_bitsOfBytes (l : List Byte) (rest : List Bool) : bytesOf l.length (bitsOfBytes l ++ rest) = l := by
  induction l with
  | nil => rfl
  | cons x l ih =>
    have length := bitsOf_length 8 x.toNat
    rw [bitsOfBytes_cons, List.append_assoc, List.length_cons, bytesOf, List.take_left' length, List.drop_left' length, ih,
      numberOf_bitsOf]
    congr 1
    exact ofNat_toNat_mod x

/-! ### The frame of a notice -/

/-- The bits of a frame that its check covers (R153). -/
def coveredBits (kind sender : BitVec 5) (rest : List Byte) : List Bool :=
  bitsOf 2 (kind.toNat / 8) ++ bitsOf 5 kind.toNat ++ bitsOf 5 sender.toNat ++ bitsOfBytes rest

theorem frameOf_eq (kind sender : BitVec 5) (rest : List Byte) : frameOf kind sender rest =
    coveredBits kind sender rest ++ bitsOf 16 (checkOf (coveredBits kind sender rest)).toNat := rfl

section Frame
variable (kind sender : BitVec 5) (rest : List Byte)

theorem coveredBits_length : (coveredBits kind sender rest).length = 12 + 8 * rest.length := by
  simp only [coveredBits, List.length_append, bitsOf_length, bitsOfBytes_length]

theorem frameOf_length : (frameOf kind sender rest).length = 28 + 8 * rest.length := by
  rw [frameOf_eq, List.length_append, coveredBits_length, bitsOf_length]
  omega

/-- A frame in its fields, the last with what follows it (R152). -/
theorem frameOf_fields : frameOf kind sender rest = bitsOf 2 (kind.toNat / 8) ++ (bitsOf 5 kind.toNat ++
    (bitsOf 5 sender.toNat ++ (bitsOfBytes rest ++ bitsOf 16 (checkOf (coveredBits kind sender rest)).toNat))) := by
  simp only [frameOf_eq, coveredBits, List.append_assoc]

theorem frameOf_class : numberOf ((frameOf kind sender rest).take 2) = kind.toNat / 8 := by
  have small : kind.toNat / 8 < 4 := by omega
  rw [frameOf_fields, List.take_left' (bitsOf_length _ _), numberOf_bitsOf]
  exact Nat.mod_eq_of_lt small

theorem frameOf_kind : BitVec.ofNat 5 (numberOf (((frameOf kind sender rest).drop 2).take 5)) = kind := by
  rw [frameOf_fields, List.drop_left' (bitsOf_length _ _), List.take_left' (bitsOf_length _ _), numberOf_bitsOf]
  exact ofNat_toNat_mod kind

theorem frameOf_sender : BitVec.ofNat 5 (numberOf (((frameOf kind sender rest).drop 7).take 5)) = sender := by
  have head : (bitsOf 2 (kind.toNat / 8) ++ bitsOf 5 kind.toNat).length = 7 := by
    rw [List.length_append, bitsOf_length, bitsOf_length]
  rw [frameOf_fields, ← List.append_assoc, List.drop_left' head, List.take_left' (bitsOf_length _ _), numberOf_bitsOf]
  exact ofNat_toNat_mod sender

theorem frameOf_body : bytesOf rest.length ((frameOf kind sender rest).drop 12) = rest := by
  have head : (bitsOf 2 (kind.toNat / 8) ++ bitsOf 5 kind.toNat ++ bitsOf 5 sender.toNat).length = 12 := by
    simp only [List.length_append, bitsOf_length]
  rw [frameOf_fields, ← List.append_assoc, ← List.append_assoc, List.drop_left' head, bytesOf_bitsOfBytes]

/-- A notice with the body length of its kind passes every check (R159). -/
theorem failedCheck_frameOf (fits : ∀ n, bytesOfKind kind = some n → n = rest.length) :
    failedCheck (frameOf kind sender rest) = none := by
  have length := frameOf_length kind sender rest
  have bytes : ((frameOf kind sender rest).length - 28) / 8 = rest.length := by omega
  have whole : ¬ ((frameOf kind sender rest).length < 28 ∨ ((frameOf kind sender rest).length - 28) % 8 ≠ 0) := by omega
  have covered : (frameOf kind sender rest).length - 16 = (coveredBits kind sender rest).length := by
    rw [length, coveredBits_length]
    omega
  have check : checkOf ((frameOf kind sender rest).take ((frameOf kind sender rest).length - 16)) =
      BitVec.ofNat 16 (numberOf ((frameOf kind sender rest).drop ((frameOf kind sender rest).length - 16))) := by
    rw [covered, frameOf_eq, List.take_left, List.drop_left, numberOf_bitsOf]
    exact (ofNat_toNat_mod _).symm
  have long : (bytesOfKind kind).any (fun n => n != rest.length) = false := by
    cases known : bytesOfKind kind with
    | none => rfl
    | some n => simp [fits n known]
  simp only [failedCheck, bytes, frameOf_kind, frameOf_class, long]
  rw [if_neg whole, if_neg (not_not.2 check)]
  simp

/-- A good notice of another station and not foreign is heard as its commands (R159 to R163). -/
theorem sortNotice_frameOf {own : StationNo} (fits : ∀ n, bytesOfKind kind = some n → n = rest.length)
    (other : sender.toNat ≠ own.toNat) (known : isForeign kind sender = false) :
    sortNotice own (frameOf kind sender rest) = readNotice kind sender rest := by
  have length := frameOf_length kind sender rest
  have bytes : ((frameOf kind sender rest).length - 28) / 8 = rest.length := by omega
  simp only [sortNotice, failedCheck_frameOf kind sender rest fits, frameOf_kind, frameOf_sender, bytes, frameOf_body,
    if_neg other, known]
  rfl

end Frame

/-! ### The bodies -/

theorem word2_bytes2 (n : Nat) (l r : List Byte) : word2 (l ++ bytes2 n ++ r) l.length = BitVec.ofNat 16 n := by
  have high : byteAt (l ++ bytes2 n ++ r) l.length = byteOf (n / 256) := by simp [byteAt, bytes2]
  have low : byteAt (l ++ bytes2 n ++ r) (l.length + 1) = byteOf n := by simp [byteAt, bytes2]
  refine BitVec.eq_of_toNat_eq ?_
  rw [toNat_word2, high, low]
  simp only [byteOf, BitVec.toNat_ofNat]
  omega

theorem setWidth_sender (q : StationNo) : (q.setWidth 5 : BitVec 5).setWidth 4 = q := by
  revert q
  decide

theorem toNat_sender (q : StationNo) : (q.setWidth 5 : BitVec 5).toNat = q.toNat := by
  revert q
  decide

/-- A TAKE, PICK, PARK or CLAIM of a station is no foreign notice (R161). -/
theorem not_isForeign {kind : BitVec 5} (station : kind ∈ ([0x00, 0x01, 0x02, 0x08] : List (BitVec 5))) (q : StationNo) :
    isForeign kind (q.setWidth 5) = false := by
  have node : kind ∉ nodeKinds := by
    revert kind
    decide
  have own : kind ∈ stationKinds := List.mem_append_left [0x18, 0x19] station
  rw [isForeign, if_neg node, if_pos own, toNat_sender]
  exact decide_eq_false (Nat.not_le.2 q.isLt)

/-! ### The notices -/

theorem toNat_bytes2 (n : Nat) : 256 * (byteOf (n / 256)).toNat + (byteOf n).toNat = n % 65536 := by
  simp only [byteOf, BitVec.toNat_ofNat]
  omega

/-- The body of a REPORT shows its fields, each within its bits (R172). -/
theorem reportShows_reportBytes (r : Report) (fits : r.fits) : ReportShows r (reportBytes r) := by
  obtain ⟨orders, slots, decided, nones, loops, tucks, tops, failed, untracked⟩ := fits
  have pass := r.pass.isLt
  have row := r.row.isLt
  have flags : r.flags.toNat < 512 := r.flags.isLt
  have kind : r.kind.code < 3 := by cases r.kind <;> decide
  have byte (n : Nat) : (byteOf (min n 255)).toNat = min n 255 := by
    rw [byteOf, BitVec.toNat_ofNat]
    omega
  simp only [ReportShows, reportBytes, bytes2, List.cons_append, List.nil_append, List.getElem?_cons_succ,
    List.getElem?_cons_zero, Option.getD_some, Nat.zero_add, Nat.reduceAdd, toNat_bytes2]
  refine ⟨rfl, by omega, by omega, by omega, Eq.trans (b := r.kind.code) (by omega) (by cases r.kind <;> rfl), ?_,
    by omega, by omega, by omega, by omega, by omega, by omega, by omega, by omega, by omega, byte r.doubles,
    byte r.lateDoubles⟩
  simp only [Nat.testBit_eq_decide_div_mod_eq, decide_eq_false_iff_not]
  omega

section Heard
variable {q own : StationNo} (other : q ≠ own)
include other

theorem sortNotice_bits (n : Notice) (station : n.kind ∈ ([0x00, 0x01, 0x02, 0x08] : List (BitVec 5)))
    (fits : ∀ k, bytesOfKind n.kind = some k → k = n.body.length) :
    sortNotice own (n.bits q) = readNotice n.kind (q.setWidth 5) n.body :=
  sortNotice_frameOf _ _ _ fits (fun same => other (BitVec.eq_of_toNat_eq ((toNat_sender q).symm.trans same)))
    (not_isForeign station q)

theorem sortNotice_take (pass : Word16) (c : Fin 16) :
    sortNotice own ((Notice.take pass c).bits q) = [.take q pass (BitVec.ofNat 8 c.val)] := by
  have word : word2 (Notice.take pass c).body 0 = pass := (word2_bytes2 pass.toNat [] [byteOf c.val]).trans (by simp)
  rw [sortNotice_bits other (Notice.take pass c) (by simp [Notice.kind]) (fun k known => (Option.some.inj known).symm)]
  show [Instr.take ((q.setWidth 5).setWidth 4) (word2 (Notice.take pass c).body 0) (byteOf c.val)] = _
  rw [setWidth_sender, word]
  rfl

theorem sortNotice_pick (pass : Word16) (c : Fin 16) :
    sortNotice own ((Notice.pick pass c).bits q) = [.pick q pass (BitVec.ofNat 8 c.val)] := by
  have word : word2 (Notice.pick pass c).body 0 = pass := (word2_bytes2 pass.toNat [] [byteOf c.val]).trans (by simp)
  rw [sortNotice_bits other (Notice.pick pass c) (by simp [Notice.kind]) (fun k known => (Option.some.inj known).symm)]
  show [Instr.pick ((q.setWidth 5).setWidth 4) (word2 (Notice.pick pass c).body 0) (byteOf c.val)] = _
  rw [setWidth_sender, word]
  rfl

theorem sortNotice_park (pass : Word16) (c : Fin 16) (x : Option Int) :
    sortNotice own ((Notice.park pass c x).bits q) =
      [.park q pass (BitVec.ofNat 8 c.val) (BitVec.ofInt 16 (x.getD (-32768)))] := by
  have word : word2 (Notice.park pass c x).body 0 = pass :=
    (word2_bytes2 pass.toNat [] (byteOf c.val :: positionBytes x)).trans (by simp)
  have place : word2 (Notice.park pass c x).body 3 = BitVec.ofInt 16 (x.getD (-32768)) :=
    (word2_bytes2 (BitVec.ofInt 16 (x.getD (-32768))).toNat (bytes2 pass.toNat ++ [byteOf c.val]) []).trans
      (by rw [BitVec.ofNat_toNat, BitVec.setWidth_eq])
  rw [sortNotice_bits other (Notice.park pass c x) (by simp [Notice.kind]) (fun k known => (Option.some.inj known).symm)]
  show [Instr.park ((q.setWidth 5).setWidth 4) (word2 (Notice.park pass c x).body 0) (byteOf c.val)
    (word2 (Notice.park pass c x).body 3)] = _
  rw [setWidth_sender, word, place]
  rfl

theorem sortNotice_claim (pass row : Word16) (first count : Nat) (x : NeedleResult) :
    sortNotice own ((Notice.claim pass row first count x).bits q) =
      [.claim q { pass := pass, row := row, first := BitVec.ofNat 16 first, count := BitVec.ofNat 8 count,
                  result := BitVec.ofNat 8 x.code }] := by
  have words : word2 (Notice.claim pass row first count x).body 0 = pass ∧
      word2 (Notice.claim pass row first count x).body 2 = row ∧
      word2 (Notice.claim pass row first count x).body 4 = BitVec.ofNat 16 first :=
    ⟨(word2_bytes2 pass.toNat [] (bytes2 row.toNat ++ bytes2 first ++ [byteOf count, byteOf x.code])).trans (by simp),
      (word2_bytes2 row.toNat (bytes2 pass.toNat) (bytes2 first ++ [byteOf count, byteOf x.code])).trans (by simp),
      word2_bytes2 first (bytes2 pass.toNat ++ bytes2 row.toNat) [byteOf count, byteOf x.code]⟩
  obtain ⟨passRead, rowRead, firstRead⟩ := words
  rw [sortNotice_bits other (Notice.claim pass row first count x) (by simp [Notice.kind]) (fun k known => (Option.some.inj known).symm)]
  show [Instr.claim ((q.setWidth 5).setWidth 4)
    { pass := word2 (Notice.claim pass row first count x).body 0, row := word2 (Notice.claim pass row first count x).body 2,
      first := word2 (Notice.claim pass row first count x).body 4, count := byteOf count, result := byteOf x.code }] = _
  rw [setWidth_sender, passRead, rowRead, firstRead]
  rfl

end Heard

/-- An illegal cell after data cells is a symbol error, whichever half it is illegal in (R151). -/
theorem receive_illegal (bits : List Bool) (cells : List (HeardHalf × HeardHalf)) (h : HeardHalf) :
    receive bits ((none, h) :: cells) = .symbolError ∧ receive bits ((h, none) :: cells) = .symbolError := by
  refine ⟨rfl, ?_⟩
  match h with
  | none => rfl
  | some .dominant => rfl
  | some .recessive => rfl

/-- Settles O49: cells by induction on the bits, the frame field by field with its check. -/
theorem sentNoticesAreHeardAsSent : Obligations.SentNoticesAreHeardAsSent := by
  refine ⟨fun bits cells => ?_, reportShows_reportBytes, fun q own other => ⟨sortNotice_take other, sortNotice_pick other,
    fun pass c x _ => sortNotice_park other pass c x, fun pass row first count x _ _ =>
    sortNotice_claim other pass row first count x⟩⟩
  have data (rest : List (HeardHalf × HeardHalf)) : receive [] (heardCells bits ++ rest) = receive bits rest :=
    receive_heardCells bits rest []
  refine ⟨?_, data _, data _, fun h => ⟨(data _).trans (receive_illegal _ _ h).1, (data _).trans (receive_illegal _ _ h).2⟩⟩
  have whole := data []
  rwa [List.append_nil] at whole

end Sys2Proof.Machine
end

section
/-! PROOF. The answers to a QUERY: the parts placed, and the layout of the three pages (R162, R172, R183, R184, R188
to R191). -/

namespace Sys2Proof.Machine

/-! ### The parts placed -/

/-- The STATUS notices of a page whose parts from number `k` on carry these bytes (R188). -/
def statusParts (page : Nat) : Nat → List (List Byte) → List Notice
  | _, [] => []
  | k, b :: bs => .status page k b :: statusParts page (k + 1) bs

theorem statusParts_length (page k : Nat) (l : List (List Byte)) : (statusParts page k l).length = l.length := by
  induction l generalizing k with
  | nil => rfl
  | cons b bs ih => exact congrArg (· + 1) (ih (k + 1))

theorem offerParts_list (page k : Nat) (l : List (List Byte)) (s : State) : (offerParts page k l s).line.list =
    s.line.list ++ (statusParts page k l).take (16 - s.line.list.length) := by
  induction l generalizing k s with
  | nil => simp [offerParts, statusParts]
  | cons b bs ih =>
    rw [offerParts, ih, statusParts]
    rcases Nat.lt_or_ge s.line.list.length 16 with room | full
    · have joined : (s.offer (.status page k b)).line.list = s.line.list ++ [.status page k b] := by
        rw [State.offer_room s _ room]
        exact joinList_last _ _ rfl
      have next : 16 - s.line.list.length = 16 - (s.line.list.length + 1) + 1 := by omega
      rw [joined, List.append_assoc, List.length_append, List.length_singleton, next, List.take_succ_cons]
      rfl
    · have kept : (s.offer (.status page k b)).line.list = s.line.list := by
        rw [State.offer_full s _ full]
        rfl
      have none : 16 - s.line.list.length = 0 := by omega
      rw [kept, none, List.take_zero, List.take_zero]

theorem offerParts_count_of_ne (page k : Nat) (l : List (List Byte)) (s : State) {j : Counter} (other : j ≠ .statusDrops) :
    (offerParts page k l s).count j = s.count j := by
  induction l generalizing k s with
  | nil => rfl
  | cons b bs ih => exact (ih _ _).trans (State.count_offer_of_ne s _ other)

theorem saturated_add (c k : Nat) : min (min (c + 1) 65535 + k) 65535 = min (c + (k + 1)) 65535 := by
  omega

theorem one_fewer {k m : Nat} (room : m < 16) : k - (16 - (m + 1)) = k + 1 - (16 - m) := by
  omega

/-- The parts with no room are counted as dropped (R156, R168). -/
theorem offerParts_dropped (page k : Nat) (l : List (List Byte)) (s : State) :
    (offerParts page k l s).count .statusDrops = if l.length - (16 - s.line.list.length) = 0 then s.count .statusDrops
      else min (s.count .statusDrops + (l.length - (16 - s.line.list.length))) 65535 := by
  induction l generalizing k s with
  | nil => simp [offerParts]
  | cons b bs ih =>
    rw [offerParts, ih, List.length_cons]
    rcases Nat.lt_or_ge s.line.list.length 16 with room | full
    · have still : bs.length - (16 - (s.line.list.length + 1)) = bs.length + 1 - (16 - s.line.list.length) :=
        one_fewer room
      have longer : (s.offer (.status page k b)).line.list.length = s.line.list.length + 1 := by
        rw [State.offer_room s _ room]
        exact (congrArg List.length (joinList_last _ _ rfl)).trans (by simp)
      have count : (s.offer (.status page k b)).count .statusDrops = s.count .statusDrops := by
        rw [State.offer_room s _ room]
        rfl
      rw [longer, count, still]
    · have kept : (s.offer (.status page k b)).line.list.length = s.line.list.length := by
        rw [State.offer_full s _ full]
        rfl
      have count : (s.offer (.status page k b)).count .statusDrops = min (s.count .statusDrops + 1) 65535 := by
        rw [State.offer_full s _ full]
        exact (State.count_bump s _ _).trans (if_pos rfl)
      have none : 16 - s.line.list.length = 0 := Nat.sub_eq_zero_of_le full
      rw [kept, count, none, Nat.sub_zero, Nat.sub_zero, if_neg (Nat.succ_ne_zero _)]
      split_ifs with last
      · rw [last]
      · exact saturated_add _ _

/-- An answer placed on a station that differs from `s` in its counters and by the end mark alone (R188). -/
theorem answered_offerParts {s u : State} (page : Nat) (l : List (List Byte))
    (same : SameExcept (([.transmitList, .counts] : List Part) ++ noticeParts) s u) (list : u.line.list = s.line.list) :
    Answered s (offerParts page 0 l u) u.count (statusParts page 0 l) := by
  have dropped := offerParts_dropped page 0 l u
  rw [list] at dropped
  refine ⟨same.then ((offerParts_frame page 0 l u).same), ?_, fun k => offerParts_count_of_ne page 0 l u, ?_⟩
  · rw [offerParts_list, list]
  · rw [statusParts_length]
    exact ⟨fun none => dropped.trans (if_pos none), fun some => dropped.trans (if_neg some)⟩

/-! ### The two other answers -/

/-- Addressed notices for another station are all one: their end mark is taken (R162). -/
theorem State.ifAddressed_of_elsewhere {s : State} {q : BitVec 5} (elsewhere : s.addressed q = false) (f g : State → State) :
    s.ifAddressed q f = s.ifAddressed q g := by
  have ignored (f : State → State) : (if s.endMark.addressed q then f s.endMark else s.endMark) = s.endMark :=
    if_neg (Bool.eq_false_iff.1 elsewhere)
  show (if s.hears then (if s.endMark.addressed q then f s.endMark else s.endMark) else s) =
    if s.hears then (if s.endMark.addressed q then g s.endMark else s.endMark) else s
  rw [ignored f, ignored g]

/-! ### Bytes of a part -/

theorem bodyByte_eq (l : List Byte) (k : Nat) : bodyByte l k = (l[k - 2]?.getD 0).toNat := rfl

theorem padTo_length (k : Nat) (l : List Byte) : (padTo k l).length = k := by
  simp [padTo]

/-- What is padded to 30 bytes shows its own bytes, and 0 beyond them (R188). -/
theorem bodyByte_padTo {l : List Byte} (short : l.length ≤ 30) (k : Nat) : bodyByte (padTo 30 l) k = bodyByte l k := by
  rw [bodyByte_eq, bodyByte_eq, padTo, List.getElem?_take]
  rcases Nat.lt_or_ge (k - 2) l.length with inside | beyond
  · rw [if_pos (by omega), List.getElem?_append_left inside]
  · rw [List.getElem?_eq_none beyond, List.getElem?_append_right beyond, List.getElem?_replicate]
    split_ifs <;> rfl

/-- The bytes of fields of one size, field by field. -/
theorem getElem?_flatMap_fields {α : Type} (n : Nat) (f : α → List Byte) (size : ∀ x, (f x).length = n) (l : List α)
    (j m : Nat) (inside : m < n) : (l.flatMap f)[n * j + m]? = l[j]?.bind fun x => (f x)[m]? := by
  induction l generalizing j with
  | nil => simp
  | cons x l ih =>
    rw [List.flatMap_cons]
    cases j with
    | zero => 
      rw [Nat.mul_zero, Nat.zero_add, List.getElem?_append_left (by rwa [size])]
      rfl
    | succ j =>
      have later : n * (j + 1) + m = (f x).length + (n * j + m) := by
        rw [size]
        ring
      rw [later, List.getElem?_append_right (Nat.le_add_right _ _), Nat.add_sub_cancel_left, ih]
      rfl

theorem flatMap_fields_length {α : Type} (n : Nat) (f : α → List Byte) (size : ∀ x, (f x).length = n) (l : List α) :
    (l.flatMap f).length = n * l.length := by
  induction l with
  | nil => rfl
  | cons x l ih => 
    rw [List.flatMap_cons, List.length_append, ih, size, List.length_cons]
    ring

theorem toNat_byteOf {n : Nat} (small : n < 256) : (byteOf n).toNat = n := by
  rw [byteOf, BitVec.toNat_ofNat]
  exact Nat.mod_eq_of_lt small

theorem bitAt_eq (b : Bool) (k : Nat) : bitAt b k = 2 ^ k * b.toNat := by
  cases b <;> simp [bitAt]

theorem testBit_of_bit {n k : Nat} {b : Bool} (bit : n / 2 ^ k % 2 = b.toNat) : n.testBit k = b := by
  rw [Nat.testBit_eq_decide_div_mod_eq, bit]
  cases b <;> rfl

/-! ### Page 1 -/

section Page1
variable (s : State)

theorem page1_length (k : Nat) : (s.page1 k).length = 30 := padTo_length _ _

theorem page1_fields_length (k : Nat) : (((s.counts.toList.drop (15 * k)).take 15).flatMap bytes2).length =
    2 * min 15 (41 - 15 * k) := by
  rw [flatMap_fields_length 2 bytes2 (fun _ => rfl)]
  simp

theorem bodyByte_page1 (k m i : Nat) (field : m < 15) (inside : 15 * k + m < 41) (half : i < 2) :
    bodyByte (s.page1 k) (2 + 2 * m + i) = ((bytes2 s.counts[15 * k + m])[i]?.getD 0).toNat := by
  have length := page1_fields_length s k
  rw [State.page1, bodyByte_padTo (by omega), bodyByte_eq, (by omega : 2 + 2 * m + i - 2 = 2 * m + i),
    getElem?_flatMap_fields 2 bytes2 (fun _ => rfl) _ _ _ half]
  simp [field, inside]

/-- A part of page 1 shows each of its counters in its two bytes (R190). -/
theorem page1_shows (k : Counter) (fits : s.count k ≤ 65535) :
    256 * bodyByte (s.page1 (k.idx / 15)) (2 + 2 * (k.idx % 15)) +
      bodyByte (s.page1 (k.idx / 15)) (2 + 2 * (k.idx % 15) + 1) = s.count k := by
  have small := k.idx.isLt
  have place : 15 * (k.idx.val / 15) + k.idx.val % 15 = k.idx.val := Nat.div_add_mod _ _
  have high := bodyByte_page1 s (k.idx / 15) (k.idx % 15) 0 (Nat.mod_lt _ (by decide)) (by omega) (by decide)
  have low := bodyByte_page1 s (k.idx / 15) (k.idx % 15) 1 (Nat.mod_lt _ (by decide)) (by omega) (by decide)
  simp only [place] at high low
  have value := toNat_bytes2 (s.count k)
  rw [Nat.add_zero] at high
  rw [high, low]
  exact value.trans (Nat.mod_eq_of_lt (by omega))

/-- Beyond its counters a part of page 1 is 0 (R188). -/
theorem bodyByte_page1_beyond (i : Nat) (beyond : 24 ≤ i) : bodyByte (s.page1 2) i = 0 := by
  have length := page1_fields_length s 2
  rw [State.page1, bodyByte_padTo (by omega), bodyByte_eq, List.getElem?_eq_none (by omega)]
  rfl

/-- The counters stand in the order of the table (R190). -/
theorem counterOrder_idx : ∀ j < 41, counterOrder[j]?.map (fun k => k.idx.val) = some j := by decide

end Page1

/-! ### Page 2 -/

section Page2
variable (s : State)

theorem recordBytes_length (r : CarrierRec) : (recordBytes r).length = 6 := by
  obtain ⟨place, reserved⟩ := r
  cases place <;> cases reserved <;> rfl

theorem page2_records_length (k : Nat) (part : k < 4) :
    (((s.carr.table.toList.drop (4 * k)).take 4).flatMap recordBytes).length = 24 := by
  rw [flatMap_fields_length 6 recordBytes recordBytes_length, List.length_take, List.length_drop, Vector.length_toList]
  omega

theorem bodyByte_page2 (k j i : Nat) (c : Fin 16) (record : j < 4) (place : c.val = 4 * k + j) (inside : i < 6) :
    bodyByte (s.page2 k) (2 + 6 * j + i) = ((recordBytes (s.carrier c))[i]?.getD 0).toNat := by
  have part : k < 4 := by omega
  have bound : 4 * k + j < 16 := by omega
  have length := page2_records_length s k part
  rw [State.page2, bodyByte_padTo (by simp [length]), bodyByte_eq, (by omega : 2 + 6 * j + i - 2 = 6 * j + i),
    List.getElem?_append_left (by omega), getElem?_flatMap_fields 6 recordBytes recordBytes_length _ _ _ inside]
  simp [record, bound, State.carrier, place]

theorem bodyByte_page2_pin (k : Nat) (part : k < 4) : bodyByte (s.page2 k) 26 = (pinByte s.carr.pin).toNat := by
  have length := page2_records_length s k part
  rw [State.page2, bodyByte_padTo (by simp [length]), bodyByte_eq, List.getElem?_append_right (by omega), length]
  rfl

theorem bodyByte_page2_beyond (k i : Nat) (part : k < 4) (beyond : 27 ≤ i) : bodyByte (s.page2 k) i = 0 := by
  have length := page2_records_length s k part
  rw [State.page2, bodyByte_padTo (by simp [length]), bodyByte_eq, List.getElem?_eq_none (by simp [length]; omega)]
  rfl

end Page2

/-- A signed number in two bytes, as the table counts it (R152). -/
theorem signed2_value (x : Int) : (((256 * (byteOf ((BitVec.ofInt 16 x).toNat / 256)).toNat +
    (byteOf (BitVec.ofInt 16 x).toNat).toNat : Nat)) : Int) = x % 65536 := by
  rw [toNat_bytes2, BitVec.toNat_ofInt]
  omega

/-- The code of a place in the top two bits of its record, and the station that holds the carrier (R191). -/
def Place.code : Place → Nat
  | .unknown => 0
  | .parked _ => 1
  | .held _ => 2

def Place.holder : Place → Nat
  | .held q => q.toNat
  | _ => 0

theorem Place.holder_lt (x : Place) : x.holder < 16 := by
  cases x with
  | held q => exact q.isLt
  | unknown => exact Nat.zero_lt_succ 15
  | parked x => exact Nat.zero_lt_succ 15

/-- The first byte of a record (R191). -/
theorem recordBytes_first (r : CarrierRec) : ((recordBytes r)[0]?.getD 0).toNat =
    64 * r.place.code + 32 * r.reserved.isSome.toNat + r.place.holder := by
  obtain ⟨place, reserved⟩ := r
  have flag : bitAt reserved.isSome 5 = 32 * reserved.isSome.toNat := bitAt_eq _ _
  have least := Bool.toNat_le reserved.isSome
  cases place with
  | unknown => exact (toNat_byteOf (n := bitAt reserved.isSome 5) (by omega)).trans (by simp [flag, Place.code, Place.holder])
  | parked x =>
    exact (toNat_byteOf (n := 64 + bitAt reserved.isSome 5) (by omega)).trans (by simp [flag, Place.code, Place.holder])
  | held q =>
    exact (toNat_byteOf (n := 128 + bitAt reserved.isSome 5 + q.toNat) (by omega)).trans
      (by simp [flag, Place.code, Place.holder])

/-- The reservation in the last three bytes of a record (R191). -/
theorem recordBytes_reserved (place : Place) (v : Reservation) (i : Nat) :
    (recordBytes ⟨place, some v⟩)[3 + i]? = (byteOf v.station.toNat :: bytes2 v.pass.toNat)[i]? := by
  cases place with
  | unknown => exact List.getElem?_append_right (l₁ := [_, _, _]) (Nat.le_add_right 3 i) |>.trans (by simp)
  | parked x => exact List.getElem?_append_right (l₁ := [_, _, _]) (Nat.le_add_right 3 i) |>.trans (by simp)
  | held q => exact List.getElem?_append_right (l₁ := [_, _, _]) (Nat.le_add_right 3 i) |>.trans (by simp)

theorem recordBytes_free (place : Place) (i : Nat) :
    (recordBytes ⟨place, none⟩)[3 + i]? = ([0, 0, 0] : List Byte)[i]? := by
  cases place with
  | unknown => exact List.getElem?_append_right (l₁ := [_, _, _]) (Nat.le_add_right 3 i) |>.trans (by simp)
  | parked x => exact List.getElem?_append_right (l₁ := [_, _, _]) (Nat.le_add_right 3 i) |>.trans (by simp)
  | held q => exact List.getElem?_append_right (l₁ := [_, _, _]) (Nat.le_add_right 3 i) |>.trans (by simp)

theorem Pin.code_lt (p : Pin) : p.code < 4 := by
  cases p <;> simp [Pin.code]

/-- The pin's byte (R191). -/
theorem toNat_pinByte (p : Pin) : (pinByte p).toNat =
    64 * p.code + 16 * p.carrierOn.isSome.toNat + (p.carrierOn.elim 0 (·.val)) := by
  cases p with
  | released => rfl
  | engaging c pass d o => rfl
  | engaged c pass =>
    exact (toNat_byteOf (n := 64 * 2 + (16 + c.val)) (by omega)).trans (Nat.add_assoc _ _ _).symm
  | releasing c pass d o =>
    exact (toNat_byteOf (n := 64 * 3 + (16 + c.val)) (by omega)).trans (Nat.add_assoc _ _ _).symm

/-- The bytes of a record show it (R191). -/
theorem recordBytes_shows (r : CarrierRec) : let at_ (i : Nat) : Nat := ((recordBytes r)[i]?.getD 0).toNat
    at_ 0 / 64 = r.place.code ∧ (at_ 0).testBit 5 = r.reserved.isSome ∧
    (∀ q, r.place = .held q → at_ 0 % 16 = q.toNat) ∧
    (∀ v, r.reserved = some v → at_ 3 % 16 = v.station.toNat ∧ 256 * at_ 4 + at_ 5 = v.pass.toNat) ∧
    (r.reserved = none → 256 * at_ 4 + at_ 5 = 0) := by
  obtain ⟨place, reserved⟩ := r
  have first := recordBytes_first ⟨place, reserved⟩
  have flag := Bool.toNat_le reserved.isSome
  have holder := place.holder_lt
  simp only [first]
  refine ⟨by omega, testBit_of_bit (by omega), fun q held => ?_, fun v taken => ⟨?_, ?_⟩, fun free => ?_⟩
  · have : place.holder = q.toNat := congrArg Place.holder held
    omega
  · cases taken
    have station := v.station.isLt
    rw [recordBytes_reserved place v 0]
    exact (congrArg (· % 16) (toNat_byteOf (by omega))).trans (Nat.mod_eq_of_lt station)
  · cases taken
    rw [recordBytes_reserved place v 1, recordBytes_reserved place v 2]
    exact (toNat_bytes2 v.pass.toNat).trans (Nat.mod_eq_of_lt v.pass.isLt)
  · cases free
    rw [recordBytes_free place 1, recordBytes_free place 2]
    rfl

/-- A part of page 2 shows its four records and the pin (R191). -/
theorem page2_shows (s : State) (k : Nat) (part : k < 4) : Page2Shows s k (s.page2 k) := by
  have pin := (bodyByte_page2_pin s k part).trans (toNat_pinByte s.carr.pin)
  have flag := Bool.toNat_le s.carr.pin.carrierOn.isSome
  have codes := s.carr.pin.code_lt
  have carrier : s.carr.pin.carrierOn.elim 0 (·.val) < 16 := by
    cases s.carr.pin.carrierOn with
    | none => decide
    | some c => exact c.isLt
  refine ⟨padTo_length _ _, fun j c record place => ?_, ?_, ?_, fun c on => ?_, fun i => bodyByte_page2_beyond s k i part⟩
  · have byte (i : Nat) (inside : i < 6) := bodyByte_page2 s k j i c record place inside
    have first : bodyByte (s.page2 k) (2 + 6 * j) = _ := byte 0 (by decide)
    simp only [first, byte 1 (by decide), byte 2 (by decide), byte 3 (by decide), byte 4 (by decide), byte 5 (by decide)]
    obtain ⟨code, reserved, held, taken, free⟩ := recordBytes_shows (s.carrier c)
    refine ⟨code.trans ?_, reserved, held, ?_, fun v some => (taken v some).1, ?_⟩
    · cases (s.carrier c).place <;> rfl
    · obtain ⟨_ | x | q, v⟩ := s.carrier c
      · rfl
      · exact signed2_value x
      · rfl
    · cases is : (s.carrier c).reserved with
      | none => exact free is
      | some v => exact (taken v is).2
  · refine Eq.trans (b := s.carr.pin.code) (by rw [pin]; omega) ?_
    cases s.carr.pin <;> rfl
  · rw [pin]
    exact testBit_of_bit (by omega)
  · rw [pin, on, Option.isSome_some, Option.elim_some, Bool.toNat_true]
    have := c.isLt
    omega

/-! ### Page 0 -/

theorem flagOf_eq (b : Bool) : flagOf b = b.toNat := by cases b <;> rfl

theorem stickyOrder_idx : ∀ k < 14, stickyOrder[k]?.map StickyFlag.idx = some k := by decide

theorem causeOrder_idx : ∀ k < 13, causeOrder[k]?.map StopCause.idx = some k := by decide

theorem courseFlagOrder_idx : ∀ k < 9, courseFlagOrder[k]?.map CourseFlag.idx = some k := by decide

theorem allSlots_toList {α : Type} (v : Vector α 4) : v.toList = allSlots.map fun i => v[i] := by
  refine List.ext_getElem (by simp [allSlots]) fun k inside _ => ?_
  have bound : k < 4 := by simpa using inside
  have slot : allSlots[k]'(by simpa [allSlots] using bound) = ⟨k, bound⟩ :=
    (List.getElem_finRange (n := 4) (by simpa using bound)).trans rfl
  simp [slot]

/-- The FREE slots, counted (R189). -/
theorem RowStore.freeCount_eq (u : RowStore) : u.freeCount = u.slots.toList.countP (·.isNone) := by
  rw [allSlots_toList, List.countP_map, List.countP_eq_length_filter]
  rfl

theorem RowStore.freeCount_le (u : RowStore) : u.freeCount ≤ 4 :=
  List.length_filter_le _ allSlots

/-- A byte put together from eight bits is their binary numeral. -/
theorem byte_of_bits (b0 b1 b2 b3 b4 b5 b6 b7 : Bool) :
    bitAt b0 0 + bitAt b1 1 + bitAt b2 2 + bitAt b3 3 + bitAt b4 4 + bitAt b5 5 + bitAt b6 6 + bitAt b7 7 =
      Nat.bit b0 (Nat.bit b1 (Nat.bit b2 (Nat.bit b3 (Nat.bit b4 (Nat.bit b5 (Nat.bit b6 b7.toNat)))))) := by
  simp only [bitAt_eq, Nat.bit_val]
  ring

theorem historyByte_eq (h : Vector Bool 8) : historyByte h = Nat.bit h[0] (Nat.bit h[1] (Nat.bit h[2] (Nat.bit h[3]
    (Nat.bit h[4] (Nat.bit h[5] (Nat.bit h[6] h[7].toNat)))))) := byte_of_bits _ _ _ _ _ _ _ _

/-- The history byte has the verdicts as its bits, the newest lowest (R189). -/
theorem testBit_historyByte (h : Vector Bool 8) (j : Fin 8) : (historyByte h).testBit j.val = h[j] := by
  have last : h[7].toNat.testBit 0 = h[7] := by cases h[7] <;> rfl
  rw [historyByte_eq]
  match j with
  | ⟨0, _⟩ => exact Nat.testBit_bit_zero ..
  | ⟨1, _⟩ => simp only [Nat.testBit_bit_succ, Nat.testBit_bit_zero]; rfl
  | ⟨2, _⟩ => simp only [Nat.testBit_bit_succ, Nat.testBit_bit_zero]; rfl
  | ⟨3, _⟩ => simp only [Nat.testBit_bit_succ, Nat.testBit_bit_zero]; rfl
  | ⟨4, _⟩ => simp only [Nat.testBit_bit_succ, Nat.testBit_bit_zero]; rfl
  | ⟨5, _⟩ => simp only [Nat.testBit_bit_succ, Nat.testBit_bit_zero]; rfl
  | ⟨6, _⟩ => simp only [Nat.testBit_bit_succ, Nat.testBit_bit_zero]; rfl
  | ⟨7, _⟩ => simp only [Nat.testBit_bit_succ]; exact last

theorem bit_lt {b : Bool} {m n : Nat} (below : m < n) : Nat.bit b m < 2 * n := by
  have := Bool.toNat_le b
  rw [Nat.bit_val]
  omega

theorem historyByte_lt (h : Vector Bool 8) : historyByte h < 256 := by
  rw [historyByte_eq]
  exact bit_lt (bit_lt (bit_lt (bit_lt (bit_lt (bit_lt (bit_lt (n := 2) (Nat.lt_succ_of_le (Bool.toNat_le _))))))))

/-- The position in three bytes, as the table counts it (R152). -/
theorem signed3_value (x : Int) : (((65536 * (byteOf ((BitVec.ofInt 24 x).toNat / 65536)).toNat +
    256 * (byteOf ((BitVec.ofInt 24 x).toNat / 256)).toNat + (byteOf (BitVec.ofInt 24 x).toNat).toNat : Nat)) : Int) =
    x % 16777216 := by
  simp only [byteOf, BitVec.toNat_ofNat, BitVec.toNat_ofInt]
  omega

theorem standbyCode_lt (b : Option Standby) : standbyCode b < 4 := by
  unfold standbyCode
  split
  · decide
  · split <;> decide

theorem heightCodeOf_lt (h : Option Height) : heightCodeOf h < 8 := by
  cases h with
  | none => decide
  | some h => cases h <;> decide

theorem refusalCode_lt (r : Option RefusalReason) : refusalCode r < 256 := by
  cases r with
  | none => decide
  | some r => cases r <;> decide

/-- A byte of a number, a bit, a two-bit number and three bits (R189). -/
theorem stateByte_fields (m p : Nat) (a b c d : Bool) (small : p < 4) :
    let n := 64 * m + 32 * a.toNat + 8 * p + 4 * b.toNat + 2 * c.toNat + d.toNat
    n / 64 = m ∧ n.testBit 5 = a ∧ n / 8 % 4 = p ∧ n.testBit 2 = b ∧ n.testBit 1 = c ∧ n.testBit 0 = d := by
  have ha := Bool.toNat_le a
  have hb := Bool.toNat_le b
  have hc := Bool.toNat_le c
  have hd := Bool.toNat_le d
  exact ⟨by omega, testBit_of_bit (by omega), by omega, testBit_of_bit (by omega), testBit_of_bit (by omega),
    testBit_of_bit (by omega)⟩

/-- A byte of a number, two bits, a two-bit number and a bit (R189). -/
theorem headByte_fields (m p : Nat) (a b c : Bool) (small : p < 4) :
    let n := 32 * m + 16 * a.toNat + 8 * b.toNat + 2 * p + c.toNat
    n / 32 = m ∧ n.testBit 4 = a ∧ n.testBit 3 = b ∧ n / 2 % 4 = p ∧ n.testBit 0 = c := by
  have ha := Bool.toNat_le a
  have hb := Bool.toNat_le b
  have hc := Bool.toNat_le c
  exact ⟨by omega, testBit_of_bit (by omega), testBit_of_bit (by omega), by omega, testBit_of_bit (by omega)⟩

/-- A byte of a number, a bit and a three-bit number (R189). -/
theorem roomByte_fields (m p : Nat) (a : Bool) (small : p < 8) :
    let n := 16 * m + 8 * a.toNat + p
    n / 16 = m ∧ n.testBit 3 = a ∧ n % 8 = p := by
  have ha := Bool.toNat_le a
  exact ⟨by omega, testBit_of_bit (by omega), by omega⟩

section Page0
variable (s : State)

/-- The first byte of page 0: the station state, the course, STANDBY, reference, line and guard (R189). -/
theorem page0_state : bodyByte s.page0 2 = 64 * s.ctl.mode.code + 32 * s.running.toNat +
    8 * standbyCode s.course.standby + 4 * s.pos.referenced.toNat + 2 * s.line.degraded.toNat + s.line.guardCut.toNat := by
  have mode : s.ctl.mode.code < 4 := by cases s.ctl.mode <;> simp [Mode.code]
  have standby := standbyCode_lt s.course.standby
  have running := Bool.toNat_le s.running
  have referenced := Bool.toNat_le s.pos.referenced
  have degraded := Bool.toNat_le s.line.degraded
  have cut := Bool.toNat_le s.line.guardCut
  have value : 64 * s.ctl.mode.code + bitAt s.course.active.isSome 5 + 8 * standbyCode s.course.standby +
      bitAt s.pos.referenced 2 + bitAt s.line.degraded 1 + bitAt s.line.guardCut 0 = 64 * s.ctl.mode.code +
      32 * s.running.toNat + 8 * standbyCode s.course.standby + 4 * s.pos.referenced.toNat + 2 * s.line.degraded.toNat +
      s.line.guardCut.toNat := by
    simp only [bitAt_eq, State.running]
    omega
  exact (congrArg (fun n => (byteOf n).toNat) value).trans (toNat_byteOf (by omega))

/-- Its second byte: head, rail, direction and latch (R189). -/
theorem page0_head : bodyByte s.page0 3 = 32 * heightCodeOf s.head.height + 16 * s.head.disabled.toNat +
    8 * s.head.railGood.toNat + 2 * s.pos.tracker.code + s.ctl.latch.toNat := by
  have height := heightCodeOf_lt s.head.height
  have tracker : s.pos.tracker.code < 4 := by cases s.pos.tracker <;> simp [Tracker.code]
  have disabled := Bool.toNat_le s.head.disabled
  have rail := Bool.toNat_le s.head.railGood
  have latch := Bool.toNat_le s.ctl.latch
  have value : 32 * heightCodeOf s.head.height + bitAt s.head.disabled 4 + bitAt s.head.railGood 3 +
      2 * s.pos.tracker.code + bitAt s.ctl.latch 0 = 32 * heightCodeOf s.head.height + 16 * s.head.disabled.toNat +
      8 * s.head.railGood.toNat + 2 * s.pos.tracker.code + s.ctl.latch.toNat := by
    simp only [bitAt_eq]
    omega
  exact (congrArg (fun n => (byteOf n).toNat) value).trans (toNat_byteOf (by omega))

theorem page0_straps :
    bodyByte s.page0 4 = s.ctl.station.toNat + 16 * flagOf s.ctl.bedBack + 32 * flagOf s.ctl.owner := by
  have station := s.ctl.station.isLt
  have back := Bool.toNat_le s.ctl.bedBack
  have owner := Bool.toNat_le s.ctl.owner
  have value : s.ctl.station.toNat + bitAt s.ctl.bedBack 4 + bitAt s.ctl.owner 5 =
      s.ctl.station.toNat + 16 * flagOf s.ctl.bedBack + 32 * flagOf s.ctl.owner := by
    simp only [bitAt_eq, flagOf_eq]
    omega
  exact (congrArg (fun n => (byteOf n).toNat) value).trans (toNat_byteOf (by simp only [flagOf_eq]; omega))

theorem page0_levelCauses :
    bodyByte s.page0 9 = flagOf s.head.disabled + 2 * flagOf s.head.railCause + 4 * flagOf s.line.guardCut := by
  have disabled := Bool.toNat_le s.head.disabled
  have rail := Bool.toNat_le s.head.railCause
  have cut := Bool.toNat_le s.line.guardCut
  have value : bitAt s.head.disabled 0 + bitAt s.head.railCause 1 + bitAt s.line.guardCut 2 =
      flagOf s.head.disabled + 2 * flagOf s.head.railCause + 4 * flagOf s.line.guardCut := by
    simp only [bitAt_eq, flagOf_eq]
    omega
  exact (congrArg (fun n => (byteOf n).toNat) value).trans (toNat_byteOf (by simp only [flagOf_eq]; omega))

/-- The byte of the queue, the expected pass and the FREE slots (R189). -/
theorem page0_room (queue : s.course.queue.length ≤ 8) :
    bodyByte s.page0 15 = 16 * s.course.queue.length + 8 * s.course.expected.isSome.toNat + s.rows.freeCount := by
  have free := s.rows.freeCount_le
  have expected := Bool.toNat_le s.course.expected.isSome
  have value : 16 * s.course.queue.length + bitAt s.course.expected.isSome 3 + s.rows.freeCount =
      16 * s.course.queue.length + 8 * s.course.expected.isSome.toNat + s.rows.freeCount := by
    simp only [bitAt_eq]
    omega
  exact (congrArg (fun n => (byteOf n).toNat) value).trans (toNat_byteOf (by omega))

theorem bodyByte_page0_beyond (k : Nat) (beyond : 21 ≤ k) : bodyByte s.page0 k = 0 := by
  have page : bodyByte s.page0 k = bodyByte _ k := bodyByte_padTo (by simp [bytes2, signed3]) k
  rw [page, bodyByte_eq, List.getElem?_eq_none (by simp [bytes2, signed3]; omega)]
  rfl

/-- A word of marks shows each of them in the order of its table (R172, R183, R184). -/
theorem testBit_of_order {α : Type} {order : List α} {idx : α → Nat} {n : Nat}
    (place : ∀ k < n, order[k]?.map idx = some k) {w : Nat} (x : BitVec w) {word : Nat} (shown : word = x.toNat) :
    ∀ k < n, ∀ f, order[k]? = some f → word.testBit k = x.getLsbD (idx f) := by
  intro k inside f found
  have bit : idx f = k := by
    have this := place k inside
    rw [found] at this
    exact Option.some.inj this
  rw [shown, bit]
  rfl

/-- STATUS page 0 shows the station (R189). -/
theorem page0_shows (queue : s.course.queue.length ≤ 8) (bad : ∀ n, s.ctl.firstBad = some n → n ≤ 18) :
    Page0Shows s s.page0 := by
  have tracker : s.pos.tracker.code < 4 := by cases s.pos.tracker <;> simp [Tracker.code]
  obtain ⟨mode, running, standby, referenced, degraded, cut⟩ := stateByte_fields s.ctl.mode.code
    (standbyCode s.course.standby) s.running s.pos.referenced s.line.degraded s.line.guardCut (standbyCode_lt _)
  obtain ⟨height, disabled, rail, dir, latch⟩ := headByte_fields (heightCodeOf s.head.height) s.pos.tracker.code
    s.head.disabled s.head.railGood s.ctl.latch tracker
  obtain ⟨waits, expected, free⟩ := roomByte_fields s.course.queue.length s.rows.freeCount s.course.expected.isSome
    (Nat.lt_succ_of_le (s.rows.freeCount_le.trans (by decide)))
  simp only [← page0_state] at mode running standby referenced degraded cut
  simp only [← page0_head] at height disabled rail dir latch
  simp only [← page0_room s queue] at waits expected free
  have word {w : Nat} (x : BitVec w) (small : w ≤ 16) : x.toNat % 65536 = x.toNat :=
    Nat.mod_eq_of_lt (Nat.lt_of_lt_of_le x.isLt (Nat.pow_le_pow_right (by decide) small))
  have sticky := (toNat_bytes2 s.ctl.sticky.toNat).trans (word _ (by decide))
  have causes := (toNat_bytes2 s.ctl.causes.toNat).trans (word _ (by decide))
  have flags := (toNat_bytes2 s.course.flags.toNat).trans (word _ (by decide))
  refine ⟨padTo_length _ _, mode.trans ?mode, running, standby.trans ?standby, referenced, degraded, cut,
    height.trans ?height, disabled, rail, dir.trans ?dir, latch, page0_straps s, sticky, causes,
    testBit_of_order stickyOrder_idx _ sticky, testBit_of_order causeOrder_idx _ causes, page0_levelCauses s, flags,
    testBit_of_order courseFlagOrder_idx _ flags, ?history, ?refusal, ?bad, waits, expected, free.trans s.rows.freeCount_eq,
    (toNat_bytes2 _).trans (word _ (by decide)), signed3_value s.pos.c, bodyByte_page0_beyond s⟩
  case mode => cases s.ctl.mode <;> rfl
  case standby => obtain _ | ⟨order, _ | _⟩ := s.course.standby <;> rfl
  case height => obtain _ | _ | _ | _ | _ := s.head.height <;> rfl
  case dir => cases s.pos.tracker <;> rfl
  case history =>
    have byte : bodyByte s.page0 12 = historyByte s.ctl.history := toNat_byteOf (historyByte_lt _)
    intro j
    rw [byte]
    exact testBit_historyByte _ j
  case refusal =>
    refine Eq.trans (b := refusalCode s.course.lastRefusal) (toNat_byteOf (refusalCode_lt _)) ?_
    obtain _ | _ | _ := s.course.lastRefusal <;> rfl
  case bad =>
    have small : s.ctl.firstBad.getD 0 ≤ 18 := by
      cases is : s.ctl.firstBad with
      | none => exact Nat.zero_le 18
      | some n => exact bad n is
    exact toNat_byteOf (by omega)

end Page0

/-! ### The QUERY commands -/

theorem answered_endMark (s : State) (page : Nat) (l : List (List Byte)) :
    Answered s (offerParts page 0 l s.endMark) s.count (statusParts page 0 l) :=
  answered_offerParts page l ((endMark_frame s).same.mono (by decide)) rfl

/-- The three parts of page 1, its counters read before the clear flag zeroes them (R188, R190). -/
theorem answered_page1 (s : State) (clear : Byte) :
    Answered s (s.endMark.answerPage1 (isSet clear)) (if clear = 0 then s.count else fun _ => 0)
      [.status 1 0 (s.page1 0), .status 1 1 (s.page1 1), .status 1 2 (s.page1 2)] := by
  by_cases none : clear = 0
  · have unset : isSet clear = false := by simp [isSet, none]
    rw [if_pos none, unset]
    exact answered_endMark s 1 [s.page1 0, s.page1 1, s.page1 2]
  · have set : isSet clear = true := bne_iff_ne.2 none
    have zeroed : SameExcept [.counts] s.endMark (s.endMark.setCounts (Vector.replicate 41 0)) :=
      .of_blanked rfl
    have zero : (s.endMark.setCounts (Vector.replicate 41 0)).count = fun _ => 0 := by
      funext k
      exact Vector.getElem_replicate k.idx.isLt
    rw [if_neg none, set, ← zero]
    exact answered_offerParts 1 [s.page1 0, s.page1 1, s.page1 2] ((endMark_frame s).same.then zeroed) rfl

/-- Settles O60: the parts placed by induction on them, and each page byte by byte. -/
theorem queryPlacesThePartsOfItsPage : Obligations.QueryPlacesThePartsOfItsPage := by
  refine ⟨fun q clear s hears mine => ⟨⟨_, rfl, ?_⟩, ⟨_, rfl, ?_⟩, ⟨_, rfl, ?_⟩⟩, fun q page clear s => ⟨_, rfl, ?_, ?_⟩,
    fun s => ⟨page0_shows s, page2_shows s, ?counters⟩⟩
  · rw [State.ifAddressed_of_addressed hears mine]
    exact answered_endMark s 0 [s.page0]
  · rw [State.ifAddressed_of_addressed hears mine]
    exact answered_page1 s clear
  · rw [State.ifAddressed_of_addressed hears mine]
    exact answered_endMark s 2 [s.page2 0, s.page2 1, s.page2 2, s.page2 3]
  · intro hears mine
    rw [State.ifAddressed_of_addressed hears mine]
    exact ⟨((endMark_frame s).then (setSticky_frame _ .unsupported)).same,
      (State.isSticky_setSticky s.endMark .unsupported .unsupported).trans (by simp),
      StickyExcept.of_setSticky s.endMark .unsupported⟩
  · intro elsewhere
    have ignored (f : State → State) := congrArg (Host.Outcome.next (φ := Fault) (ρ := Refusal))
      (State.ifAddressed_of_elsewhere elsewhere f fun t => t.setSticky .unsupported)
    exact ⟨(ifAddressed_frame_of_elsewhere elsewhere _).same, ignored _, ignored _, ignored _, ignored _, ignored _⟩
  case counters =>
    intro j inside k found fits
    have place : k.idx.val = j := by
      have this := counterOrder_idx j inside
      rw [found] at this
      exact Option.some.inj this
    have shows := page1_shows s k fits
    rw [place] at shows
    refine ⟨page1_length _ _, shows, fun last i beyond => ?_⟩
    rw [last]
    exact bodyByte_page1_beyond s i beyond

end Sys2Proof.Machine
end

section
/-! PROOF. ORDER (R41 to R47, R96, R171): what a body says, the table of refusals, and an acceptance with its page and
its priming. -/

namespace Sys2Proof.Machine

/-! ### The coded fields -/

theorem decodeCourseType_spec (x : BitVec 2) : (decodeCourseType x = none ↔ 1 < x.toNat) ∧
    ∀ y, decodeCourseType x = some y → y = (if x = 0 then .knit else .transfer) := by
  refine ⟨by revert x; decide, fun y read => ?_⟩
  unfold decodeCourseType at read
  split_ifs at read with first second
  · exact (Option.some.inj read).symm.trans (if_pos first).symm
  · exact (Option.some.inj read).symm.trans (if_neg first).symm

theorem decodeDirection_spec (x : BitVec 2) : (decodeDirection x = none ↔ 1 < x.toNat) ∧
    ∀ y, decodeDirection x = some y → y = (if x = 0 then .right else .left) := by
  refine ⟨by revert x; decide, fun y read => ?_⟩
  unfold decodeDirection at read
  split_ifs at read with first second
  · exact (Option.some.inj read).symm.trans (if_pos first).symm
  · exact (Option.some.inj read).symm.trans (if_neg first).symm

theorem decodeRole_eq (x : BitVec 3) : decodeRole x = [Role.idle, .pattern, .cover, .backing][x.toNat]? := by
  revert x
  decide

theorem decodeAction_eq (x : BitVec 4) : decodeAction x = [Action.miss, .tuck, .knit, .xfer, .recv][x.toNat]? := by
  revert x
  decide

theorem decodeSource_none (x : Byte) : decodeSource x = none ↔ 15 < x.toNat ∧ x ≠ 0x80 := by
  unfold decodeSource
  by_cases own : x = 0x80
  · simp [own]
  · rw [if_neg own]
    by_cases partner : x.toNat < 16
    · rw [if_pos partner]
      exact iff_of_false nofun fun h => by omega
    · rw [if_neg partner]
      exact iff_of_true rfl ⟨by omega, own⟩

theorem decodeSource_some {x : Byte} {y : YarnSource} (read : decodeSource x = some y) :
    (x = 0x80 → y = .own) ∧ ∀ n : StationNo, x.toNat = n.toNat → y = .partner n := by
  unfold decodeSource at read
  split_ifs at read with own partner
  · refine ⟨fun _ => (Option.some.inj read).symm, fun n same => absurd n.isLt ?_⟩
    rw [← same, own]
    decide
  · refine ⟨fun is => absurd is own, fun n same => (Option.some.inj read).symm.trans (congrArg _ ?_)⟩
    refine BitVec.eq_of_toNat_eq ?_
    rw [← same, BitVec.extractLsb'_toNat, Nat.shiftRight_zero]
    exact Nat.mod_eq_of_lt partner

theorem decodeOrderCarrier_spec (x : Byte) : (x.getLsbD 7 = true → decodeOrderCarrier x = none) ∧
    (x.getLsbD 7 = false → ∃ c, decodeOrderCarrier x = some c ∧ c.val = x.toNat % 16) :=
  ⟨fun none => if_pos none, fun some => ⟨_, if_neg (Bool.eq_false_iff.1 some), rfl⟩⟩

/-- A body names an order exactly when each coded field has a value, and the order is what it says (R42, R171). -/
theorem decode_spec (b : OrderBody) :
    (b.decode = none ↔ decodeCourseType b.courseType = none ∨ decodeDirection b.direction = none ∨
      decodeRole b.role = none ∨ decodeAction b.selected = none ∨ decodeAction b.unselected = none ∨
      decodeSource b.source = none) ∧
    ∀ o, b.decode = some o → decodeCourseType b.courseType = some o.courseType ∧
      decodeDirection b.direction = some o.direction ∧ decodeRole b.role = some o.role ∧
      decodeAction b.selected = some o.selected ∧ decodeAction b.unselected = some o.unselected ∧
      decodeSource b.source = some o.source ∧
      o.pass = b.pass ∧ o.row = b.row ∧ o.carrier = decodeOrderCarrier b.carrier ∧ o.winFirst = b.winFirst.toNat ∧
      o.winLast = b.winLast.toNat ∧ o.racking = b.racking.toInt ∧ o.step = b.step.toNat ∧ o.colours = b.colours ∧
      o.listen = b.listen ∧ o.announce = b.announce ∧ o.floatTie = b.floatTie := by
  unfold OrderBody.decode
  split
  next ty dir role selected unselected source tyRead dirRead roleRead selectedRead unselectedRead sourceRead =>
    refine ⟨iff_of_false nofun ?_, fun o read => ?_⟩
    · simp [tyRead, dirRead, roleRead, selectedRead, unselectedRead, sourceRead]
    · obtain rfl := Option.some.inj read
      exact ⟨tyRead, dirRead, roleRead, selectedRead, unselectedRead, sourceRead, rfl, rfl, rfl, rfl, rfl, rfl, rfl, rfl,
        rfl, rfl, rfl⟩
  next missing =>
    refine ⟨iff_of_true rfl ?_, fun o read => (Option.some_ne_none o read.symm).elim⟩
    by_contra all
    simp only [not_or, ← ne_eq, Option.ne_none_iff_exists'] at all
    obtain ⟨⟨ty, tyRead⟩, ⟨dir, dirRead⟩, ⟨role, roleRead⟩, ⟨selected, selectedRead⟩, ⟨unselected, unselectedRead⟩,
      ⟨source, sourceRead⟩⟩ := all
    exact missing _ _ _ _ _ _ tyRead dirRead roleRead selectedRead unselectedRead sourceRead

theorem decode_none_iff (b : OrderBody) :
    b.decode = none ↔ 1 < b.courseType.toNat ∨ 1 < b.direction.toNat ∨ 3 < b.role.toNat ∨
      4 < b.selected.toNat ∨ 4 < b.unselected.toNat ∨ (15 < b.source.toNat ∧ b.source ≠ 0x80) := by
  have role : decodeRole b.role = none ↔ 3 < b.role.toNat := by
    rw [decodeRole_eq, List.getElem?_eq_none_iff]
    exact Nat.succ_le_iff
  have action (x : BitVec 4) : decodeAction x = none ↔ 4 < x.toNat := by
    rw [decodeAction_eq, List.getElem?_eq_none_iff]
    exact Nat.succ_le_iff
  rw [(decode_spec b).1, (decodeCourseType_spec b.courseType).1, (decodeDirection_spec b.direction).1, role,
    action, action, decodeSource_none]

/-! ### The table of refusals -/

theorem actionAllowed_iff (ty : CourseType) (back : Bool) (x : Action) :
    actionAllowed ty back x = true ↔ x ∈ allowedBy ty back := by
  cases ty with
  | knit => cases x <;> simp [actionAllowed, allowedBy]
  | transfer => cases back <;> cases x <;> simp [actionAllowed, allowedBy]

theorem ClaimUnit.canBind_eq_false (u : ClaimUnit) (row : Word16) :
    u.canBind row = false ↔ u.pageOf row = none ∧ u.page0 ≠ none ∧ u.page1 ≠ none := by
  unfold ClaimUnit.canBind
  rw [Bool.or_eq_false_iff, Bool.or_eq_false_iff]
  simp [and_assoc, Option.isSome_iff_ne_none]

/-- The table of refusals, in the words of R42. -/
theorem State.refusalOf_eq (s : State) (o : Order) : s.refusalOf o =
    if 8 ≤ s.course.queue.length then some .queueFull
    else if o.racking < -24 ∨ 24 < o.racking then some .rackingRange
    else if (o.role = .cover ∨ o.role = .backing) ∧ o.courseType = .transfer then some .roleNotAllowed
    else if o.selected ∉ allowedBy o.courseType s.ctl.bedBack ∨
        o.unselected ∉ allowedBy o.courseType s.ctl.bedBack then some .actionNotAllowed
    else if o.carrier ≠ none ∧ o.source = .own ∧ s.ctl.owner = false then some .noCarrierPin
    else if o.role = .cover ∧ s.claim.pageOf o.row = none ∧ s.claim.page0 ≠ none ∧
        s.claim.page1 ≠ none then some .noClaimPage
    else none := by
  have actions : (!(actionAllowed o.courseType s.ctl.bedBack o.selected &&
      actionAllowed o.courseType s.ctl.bedBack o.unselected)) = true ↔
      o.selected ∉ allowedBy o.courseType s.ctl.bedBack ∨ o.unselected ∉ allowedBy o.courseType s.ctl.bedBack := by
    rw [← actionAllowed_iff, ← actionAllowed_iff, ← not_and_or, ← Bool.and_eq_true, Bool.not_eq_true', Bool.not_eq_true]
  have carrier : o.carrier.isSome = true ↔ o.carrier ≠ none := Option.isSome_iff_ne_none
  simp only [← actions, ← carrier, ← ClaimUnit.canBind_eq_false]
  rfl

/-! ### A refusal -/

/-- An ORDER refused (R45). -/
theorem refused_refuseOrder (s : State) (r : RefusalReason) : Refused s (s.endMark.refuseOrder r) r :=
  ⟨rfl, (State.isSticky_setSticky _ .orderRefused .orderRefused).trans (by simp),
    StickyExcept.of_setSticky (s.endMark.setCourse { s.course with lastRefusal := some r }) .orderRefused,
    (State.count_bump _ .ordersRefused .ordersRefused).trans (if_pos rfl),
    CountsExcept.of_bump ((s.endMark.setCourse { s.course with lastRefusal := some r }).setSticky .orderRefused) .ordersRefused,
    ((endMark_frame s).then (refuseOrder_frame s.endMark r)).same⟩

/-! ### The standby take of an order primed -/

/-- Two stations have the same standby take, transmit list and counters. -/
structure SameTaking (s t : State) : Prop where
  take : t.carr.standbyTake = s.carr.standbyTake
  list : t.line.list = s.line.list
  counts : t.counts = s.counts

section Taking
variable {s t : State} (list : t.line.list = s.line.list) (counts : t.counts = s.counts)
include list counts

/-- A notice is placed by list and counters alone (R156). -/
theorem offer_agrees (n : Notice) :
    (t.offer n).line.list = (s.offer n).line.list ∧ (t.offer n).counts = (s.offer n).counts := by
  rcases Nat.lt_or_ge s.line.list.length 16 with room | full
  · rw [State.offer_room s n room, State.offer_room t n (list ▸ room)]
    exact ⟨congrArg (joinList n) list, counts⟩
  · rw [State.offer_full s n full, State.offer_full t n (list ▸ full)]
    exact ⟨list, congrArg (fun v : Vector Nat 41 => v.set n.dropCounter.idx (satAdd v[n.dropCounter.idx] 1)) counts⟩

variable (table : t.carr.table = s.carr.table) (station : t.ctl.station = s.ctl.station)
include table station

/-- The standby take is made by the carrier records, the list and the station number alone (R134). -/
theorem sameTaking_makeStandbyTake (c : Fin 16) (pass : Word16) :
    SameTaking (s.makeStandbyTake c pass) (t.makeStandbyTake c pass) := by
  have carrier : t.carrier c = s.carrier c := congrArg (·[c]) table
  have placed := offer_agrees list counts (.take pass c)
  have room : t.hasRoom = s.hasRoom := congrArg (fun l : List Notice => decide (l.length < Config.transmitMax)) list
  simp only [State.makeStandbyTake, room, carrier, list, station]
  split_ifs
  · exact ⟨rfl, list, counts⟩
  · exact ⟨rfl, list, counts⟩
  · exact ⟨rfl, list, counts⟩
  · exact ⟨rfl, placed.1, placed.2⟩
  · exact ⟨rfl, placed.1, placed.2⟩

theorem sameTaking_standbyTakeFor (o : Order) : SameTaking (s.standbyTakeFor o) (t.standbyTakeFor o) := by
  unfold State.standbyTakeFor
  split
  · exact sameTaking_makeStandbyTake list counts table station _ _
  · exact ⟨rfl, list, counts⟩

end Taking

theorem entryStatus_waiting (s : State) (o : Order) :
    entryStatus o (s.rows.stateOf o.row) = .waiting ↔ waitsForRow s o := by
  unfold entryStatus waitsForRow
  by_cases role : o.role = .pattern ∨ o.role = .cover
  · rw [if_pos role]
    cases s.rows.stateOf o.row with
    | none => simp [role]
    | some x => cases x <;> simp [role]
  · rw [if_neg role]
    simp [role]

/-- Priming moves the head of the queue into an EMPTY STANDBY (R47). -/
theorem State.prime_of_queued {s : State} {o : Order} {os : List Order} (empty : s.course.standby = none)
    (queue : s.course.queue = o :: os) : s.prime = (s.setCourse { s.course with
      queue := os, standby := some { order := o, status := entryStatus o (s.rows.stateOf o.row) } }).standbyTakeFor o := by
  simp only [State.prime, empty, queue]

/-- With STANDBY held or the queue empty priming does nothing (R47). -/
theorem State.prime_of_idle {s : State} (idle : s.course.standby ≠ none ∨ s.course.queue = []) : s.prime = s := by
  unfold State.prime
  split
  · next empty queue => simp [empty, queue] at idle
  · rfl

/-- The head of the queue has entered STANDBY, judged by the rows and made its take by the records of any station
that agrees in them (R47, R134). -/
theorem enteredStandby_prime {s u : State} {o : Order} {os : List Order} (empty : u.course.standby = none)
    (queue : u.course.queue = o :: os) (rows : u.rows = s.rows) (table : u.carr.table = s.carr.table)
    (list : u.line.list = s.line.list) (counts : u.counts = s.counts) (station : u.ctl.station = s.ctl.station) :
    u.prime.course.queue = os ∧ EnteredStandby s u.prime o := by
  rw [State.prime_of_queued empty queue]
  have kept := standbyTakeFor_frame (u.setCourse { u.course with
    queue := os, standby := some { order := o, status := entryStatus o (u.rows.stateOf o.row) } }) o
  have taking := sameTaking_standbyTakeFor (t := u.setCourse { u.course with
    queue := os, standby := some { order := o, status := entryStatus o (u.rows.stateOf o.row) } }) list counts table station o
  refine ⟨kept.get .orderQueue, ⟨_, kept.get .standby, rfl, ?_⟩, taking.take, taking.list, taking.counts⟩
  rw [rows]
  exact entryStatus_waiting s o

/-! ### The page of a COVER order -/

/-- A COVER order that may be accepted has a page for its row, an empty one where none was (R96). -/
theorem bind_page {u : ClaimUnit} {row : Word16} {w : Nat} (may : u.canBind row = true) :
    ∃ p, (u.bind row w).pageOf row = some p ∧ (∀ p', u.pageOf row = some p' → p = p') ∧
      (u.pageOf row = none → FreshFor row w p) := by
  have fresh : FreshFor row w (freshPage row w) :=
    ⟨rfl, rfl, rfl, rfl, List.length_replicate, fun e here => by rw [List.eq_of_mem_replicate here]; exact ⟨rfl, rfl, rfl⟩⟩
  cases bound : u.pageOf row with
  | some p =>
    have kept : u.bind row w = u := if_pos (by simp [bound])
    exact ⟨p, by rw [kept, bound], fun p' same => Option.some.inj same, nofun⟩
  | none =>
    refine ⟨freshPage row w, ?_, nofun, fun _ => fresh⟩
    obtain ⟨first, second⟩ := ClaimUnit.pageOf_eq_none bound
    have row : (freshPage row w).row = row := rfl
    unfold ClaimUnit.bind
    rw [if_neg (by simp [bound])]
    cases free : u.page0 with
    | none => simp [ClaimUnit.pageOf, row]
    | some q =>
      have other := first q free
      have place : u.page1 = none := by simpa [ClaimUnit.canBind, bound, free] using may
      simp [ClaimUnit.pageOf, place, other, row]

theorem bind_others (s : State) (row : Word16) (w : Nat) : OtherPageKept row s (s.setClaim (s.claim.bind row w)) := by
  show (∀ p, s.claim.page0 = some p → p.row ≠ row → (s.claim.bind row w).page0 = some p) ∧
    (∀ p, s.claim.page1 = some p → p.row ≠ row → (s.claim.bind row w).page1 = some p)
  unfold ClaimUnit.bind
  split_ifs with bound free second
  · exact ⟨fun _ is _ => is, fun _ is _ => is⟩
  · exact ⟨fun p is _ => by simp [is] at free, fun _ is _ => is⟩
  · exact ⟨fun _ is _ => is, fun p is _ => by simp [is] at second⟩
  · exact ⟨fun _ is _ => is, fun _ is _ => is⟩

/-! ### An acceptance -/

section Accept
variable (s : State) (o : Order)

/-- The claim unit as an acceptance leaves it: with a page for the row of a COVER order (R96). -/
def State.claimFor : ClaimUnit := if o.role = .cover then s.claim.bind o.row s.width else s.claim

theorem State.pageBound_eq : s.pageBound o = s.setClaim (s.claimFor o) :=
  (apply_ite s.setClaim (o.role = .cover) (s.claim.bind o.row s.width) s.claim).symm

/-- The order as it joins the queue, on the station with its page bound (R44, R96). -/
def State.ordered : State :=
  (s.endMark.setClaim (s.claimFor o)).setCourse { s.course with queue := s.course.queue ++ [o.clampWindow s.width] }

theorem acceptOrder_endMark : s.endMark.acceptOrder o = (s.ordered o).prime := by
  rw [State.acceptOrder_eq, State.pageBound_eq]
  rfl

theorem ordered_frame : SameExcept (([.pages, .orderQueue] : List Part) ++ noticeParts) s (s.ordered o) := by
  have bound : Frame [.pages, .orderQueue] s.endMark ((s.endMark.pageBound o).queued (o.clampWindow s.width)) :=
    (pageBound_frame _ o).then (queued_frame _ _)
  rw [State.pageBound_eq] at bound
  exact ((endMark_frame s).then bound).same

theorem primed_frame : Frame [.orderQueue, .standby, .standbyTake, .transmitList, .counts] (s.ordered o) (s.ordered o).prime :=
  prime_frame _

theorem primed_claim : (s.ordered o).prime.claim = s.claimFor o :=
  (primed_frame s o).same.claim_eq

/-- An ORDER accepted (R44, R47, R96). -/
theorem accepted_acceptOrder (may : o.role = .cover → s.claim.canBind o.row = true) :
    Accepted s (s.endMark.acceptOrder o) o := by
  have claim := primed_claim s o
  rw [acceptOrder_endMark]
  refine ⟨⟨fun held => ?_, fun empty queue => ?_, fun y ys empty queue => ?_⟩, fun other => ?_, fun cover => ?_, ?_, ?_⟩
  · rw [State.prime_of_idle (s := s.ordered o) (.inl held)]
    exact ⟨rfl, ordered_frame s o⟩
  · exact enteredStandby_prime (u := s.ordered o) empty (congrArg (· ++ _) queue) rfl rfl rfl rfl rfl
  · exact enteredStandby_prime (u := s.ordered o) empty (congrArg (· ++ _) queue) rfl rfl rfl rfl rfl
  · exact claim.trans (if_neg other)
  · rw [claim, State.claimFor, if_pos cover]
    exact bind_page (may cover)
  · have kept : OtherPageKept o.row s (s.setClaim (s.claimFor o)) := by
      unfold State.claimFor
      split_ifs
      · exact bind_others s o.row s.width
      · exact ⟨fun _ is _ => is, fun _ is _ => is⟩
    show (∀ p, s.claim.page0 = some p → p.row ≠ o.row → (s.ordered o).prime.claim.page0 = some p) ∧
      (∀ p, s.claim.page1 = some p → p.row ≠ o.row → (s.ordered o).prime.claim.page1 = some p)
    rw [claim]
    exact kept
  · exact (ordered_frame s o).then (primed_frame s o).same

end Accept

/-! ### The judgement -/

theorem exec_order_of_accepted {q : BitVec 5} {b : OrderBody} {s : State} (hears : s.hears = true)
    (mine : s.addressed q = true) (ready : s.ctl.mode ≠ .setup) :
    exec (.order q b) s = .next (s.endMark.takeOrder b) :=
  congrArg Host.Outcome.next ((State.ifAddressed_of_addressed hears mine _).trans
    (State.filtered_of_ready (s := s.endMark) ready _))

/-- An ORDER is refused with the reason of the table, or accepted where it gives none (R42). -/
theorem takeOrder_judged {b : OrderBody} {o : Order} (s : State) (read : b.decode = some o) :
    (s.refusalOf o).elim (Accepted s (s.endMark.takeOrder b) o) (Refused s (s.endMark.takeOrder b)) := by
  cases judged : s.refusalOf o with
  | some r =>
    have refused : s.endMark.refusalOf o = some r := judged
    have taken : s.endMark.takeOrder b = s.endMark.refuseOrder r := by simp only [State.takeOrder, read, refused]
    rw [taken]
    exact refused_refuseOrder s r
  | none =>
    have passed : s.endMark.refusalOf o = none := judged
    have taken : s.endMark.takeOrder b = s.endMark.acceptOrder o := by simp only [State.takeOrder, read, passed]
    rw [taken]
    refine accepted_acceptOrder s o fun cover => ?_
    by_contra cannot
    rw [State.refusalOf] at judged
    split_ifs at judged with _ _ _ _ _ full
    exact full ⟨cover, by simpa using cannot⟩

/-- One check of the table. -/
theorem judged_step {c : Prop} [Decidable c] {r : RefusalReason} {rest : Option RefusalReason} {accepted : Prop}
    {refused : RefusalReason → Prop} {next : Prop} (judged : (if c then some r else rest).elim accepted refused)
    (goes : rest.elim accepted refused → next) : if c then refused r else next := by
  split_ifs at judged ⊢
  · exact judged
  · exact goes judged

/-- Settles O27: the table check by check, and the body field by field. -/
theorem orderIsReadAndJudgedByTheTable : Obligations.OrderIsReadAndJudgedByTheTable := by
  refine ⟨fun q b s hears mine ready => ⟨_, exec_order_of_accepted hears mine ready, fun unread => ?_, fun o read => ?_⟩,
    fun b => ⟨decode_none_iff b, fun o read => ?_⟩⟩
  · have taken : s.endMark.takeOrder b = s.endMark.refuseOrder .undefinedCode := by simp only [State.takeOrder, unread]
    rw [taken]
    exact refused_refuseOrder s _
  · have judged := takeOrder_judged s read
    rw [State.refusalOf_eq] at judged
    exact judged_step judged fun judged => judged_step judged fun judged => judged_step judged fun judged =>
      judged_step judged fun judged => judged_step judged fun judged => judged_step judged id
  · obtain ⟨ty, dir, role, selected, unselected, source, pass, row, carrier, winFirst, winLast, racking, step, colours,
      listen, announce, floatTie⟩ := (decode_spec b).2 o read
    rw [decodeRole_eq] at role
    rw [decodeAction_eq] at selected unselected
    obtain ⟨none, some⟩ := decodeOrderCarrier_spec b.carrier
    rw [← carrier] at none some
    obtain ⟨own, partner⟩ := decodeSource_some source
    exact ⟨pass, row, (decodeCourseType_spec _).2 _ ty, (decodeDirection_spec _).2 _ dir, role, selected, unselected, none,
      some, own, partner, winFirst, winLast, racking, step, colours, listen, announce, floatTie⟩

end Sys2Proof.Machine
end

section
/-! PROOF. The arrival of a needle (R57, R65 to R69, R75 to R80, R82). -/

namespace Sys2Proof.Machine

/-! ### Counting and choosing -/

theorem Active.counts_iff (a : Active) (n : Nat) :
    a.counts n = true ↔ a.order.role ≠ .idle ∧ a.order.winFirst ≤ n ∧ n ≤ a.order.winLast := by
  simp only [Active.counts, Active.inWindow, Bool.and_eq_true, decide_eq_true_iff, bne_iff_ne]
  exact And.comm

/-- The yarn guard holds the needle: the order has a carrier that is not held for the course (R68). -/
def State.Guarded (s : State) (a : Active) : Prop :=
  a.order.carrier ≠ none ∧ ∀ cc, s.carr.course = some cc → cc.state ≠ .held

theorem State.guards_iff (s : State) (a : Active) : s.guards a = true ↔ s.Guarded a := by
  unfold State.guards State.Guarded State.carrierHeld
  rw [Bool.and_eq_true, Option.isSome_iff_ne_none]
  cases s.carr.course <;> simp

/-- The row choice of the running course has been made, or it reads no row (R57). -/
def State.RowChosen (s : State) (a : Active) : Prop := s.course.choice ≠ none ∨ a.order.role = .backing

/-- The station with one more needle decided (R66). -/
def State.counted (s : State) : State := s.setTally { s.course.tally with decided := s.course.tally.decided + 1 }

theorem State.countArrival_of_chosen {s : State} {a : Active} (chosen : s.RowChosen a) : s.countArrival a = s.counted := by
  refine if_neg fun choose => ?_
  obtain ⟨reads, none⟩ := Bool.and_eq_true_iff.1 choose
  rcases chosen with some | backing
  · exact some (Option.isNone_iff_eq_none.1 none)
  · rw [Active.readsRow_iff, backing] at reads
    simp at reads

/-! ### The first window arrival -/

theorem State.setCourseFlag_setTally (s : State) (y : Tally) (f : CourseFlag) :
    (s.setTally y).setCourseFlag f = (s.setCourseFlag f).setTally y := by
  unfold State.setCourseFlag
  rw [apply_ite (State.setTally · y)]
  refine if_congr Iff.rfl rfl ?_
  unfold State.raiseFor
  split <;> rfl

/-- The choice that the first window arrival makes, with the course flag that goes with it (R57). -/
def State.rowChoice (s : State) (a : Active) : RowChoice × Option CourseFlag :=
  rowChoiceOf a.status (s.rows.stateOf a.order.row) (s.param (·.rowPolicy) .hold) s.rows

/-- The station with its row choice made, and no course flag set for it yet (R57). -/
def State.choiceMade (s : State) (a : Active) : State :=
  s.rowChosen (s.rowChoice a).1 ((s.rowChoice a).1 == .own && s.rows.stateOf a.order.row == some .closed)

theorem State.chooseRow_eq (s : State) (a : Active) :
    s.chooseRow a = (s.rowChoice a).2.elim (s.choiceMade a) (s.choiceMade a).setCourseFlag := by
  unfold State.chooseRow
  cases flag : (s.rowChoice a).2 with
  | none =>
    simp only [State.rowChoice] at flag
    simp only [flag]
    rfl
  | some f =>
    simp only [State.rowChoice] at flag
    simp only [flag]
    rfl

theorem State.chooseRow_setTally (s : State) (a : Active) (y : Tally) :
    (s.setTally y).chooseRow a = (s.chooseRow a).setTally y := by
  rw [State.chooseRow_eq, State.chooseRow_eq]
  show (s.rowChoice a).2.elim ((s.choiceMade a).setTally y) ((s.choiceMade a).setTally y).setCourseFlag = _
  cases (s.rowChoice a).2 with
  | none => rfl
  | some f => exact State.setCourseFlag_setTally _ y f

theorem chooseRow_choice (s : State) (a : Active) : (s.chooseRow a).course.choice ≠ none := by
  rw [State.chooseRow_eq]
  cases (s.rowChoice a).2 with
  | none => exact Option.some_ne_none _
  | some f =>
    have kept : _ = (s.choiceMade a).course.choice := (setCourseFlag_frame (s.choiceMade a) f).get .rowChoice
    exact fun none => Option.some_ne_none _ (kept.symm.trans none)

theorem State.countArrival_of_unchosen {s : State} {a : Active} (reads : a.order.role = .pattern ∨ a.order.role = .cover)
    (unchosen : s.course.choice = none) : s.countArrival a = (s.chooseRow a).counted := by
  have chooses : (a.readsRow && s.counted.course.choice.isNone) = true :=
    Bool.and_eq_true_iff.2 ⟨a.readsRow_iff.2 reads, Option.isNone_iff_eq_none.2 unchosen⟩
  have tally : (s.chooseRow a).course.tally = s.course.tally := (chooseRow_frame s a).get .tally
  calc s.countArrival a = s.counted.chooseRow a := if_pos chooses
    _ = (s.chooseRow a).counted := by
      rw [State.counted, State.chooseRow_setTally, State.counted, tally]

/-! ### The arrival -/

/-- The station with a needle decided MISS under the yarn guard (R68). -/
def State.heldBack (s : State) (a : Active) (n : Nat) : State := s.counted.markOwn a n .miss

/-- The station with a needle decided by the ranking (R69, R74, R76). -/
def State.decided (s : State) (a : Active) (n : Nat) : State :=
  (s.counted.setDec { s.dec with float := (s.chooseAction a n).2 }).markOwn a n (s.chooseAction a n).1

section Arrive
variable {s : State} {a : Active} {n : Nat} (active : s.course.active = some a)
include active

theorem State.arrive_of_uncounted (outside : a.order.role = .idle ∨ n < a.order.winFirst ∨ a.order.winLast < n) :
    s.arrive n = ((s.enter n false .miss false).request n .low a.travel).leave := by
  have not : ¬ a.counts n = true := by
    rw [Active.counts_iff]
    rintro ⟨role, first, last⟩
    rcases outside with idle | outside
    · exact role idle
    · omega
  simp only [State.arrive, active, if_neg not]
  rfl

variable (role : a.order.role ≠ .idle) (first : a.order.winFirst ≤ n) (last : n ≤ a.order.winLast)
include role first last

theorem State.arrive_of_counted : s.arrive n = s.arriveCounting a n := by
  simp only [State.arrive, active, if_pos (a.counts_iff n |>.2 ⟨role, first, last⟩)]

variable (chosen : s.RowChosen a)
include chosen

theorem State.arrive_of_guarded (guarded : s.Guarded a) :
    s.arrive n = (((s.heldBack a n).enter n true .miss true).request n .low a.travel).leave := by
  rw [State.arrive_of_counted active role first last, State.arriveCounting, State.countArrival_of_chosen chosen]
  exact if_pos ((s.guards_iff a).2 guarded)

theorem State.arrive_of_ranked (free : ¬ s.Guarded a) :
    s.arrive n = (((s.decided a n).enter n true (s.chooseAction a n).1 false).request n (s.chooseAction a n).1.height
      a.travel).leave := by
  rw [State.arrive_of_counted active role first last, State.arriveCounting, State.countArrival_of_chosen chosen]
  exact if_neg fun guards => free ((s.guards_iff a).1 guards)

end Arrive

/-- The first window arrival makes the row choice and goes on as any other (R57, R66). -/
theorem arrive_chooses {s : State} {a : Active} {n : Nat} (active : s.course.active = some a)
    (reads : a.order.role = .pattern ∨ a.order.role = .cover) (first : a.order.winFirst ≤ n) (last : n ≤ a.order.winLast)
    (unchosen : s.course.choice = none) : s.arrive n = (s.chooseRow a).arrive n := by
  have role : a.order.role ≠ .idle := fun idle => by simp [idle] at reads
  have still : (s.chooseRow a).course.active = some a := ((chooseRow_frame s a).get .active).trans active
  have chosen : (s.chooseRow a).RowChosen a := .inl (chooseRow_choice s a)
  rw [State.arrive_of_counted active role first last, State.arrive_of_counted still role first last, State.arriveCounting,
    State.arriveCounting, State.countArrival_of_unchosen reads unchosen, State.countArrival_of_chosen chosen]

/-! ### The mark of a COVER course -/

theorem State.markOwn_of_other {s : State} {a : Active} (n : Nat) (x : Action) (other : a.order.role ≠ .cover) :
    s.markOwn a n x = s := if_neg other

/-- The own mark that an arrival writes (R76). -/
def State.ownMark (s : State) (x : Action) : OwnMark :=
  if x = .knit ∧ s.wouldRefuse x.height = false then .loop else .other

theorem State.markOwn_of_cover {s : State} {a : Active} (n : Nat) (x : Action) (cover : a.order.role = .cover) :
    s.markOwn a n x = s.setClaim (s.claim.changePage a.order.row fun p => p.mark n (s.ownMark x)) := if_pos cover

theorem State.wouldRefuse_iff (s : State) (h : Height) :
    s.wouldRefuse h = true ↔ s.head.disabled = true ∨ (s.head.railGood = false ∧ s.head.height ≠ some h) := by
  simp [State.wouldRefuse]

theorem State.ownMark_loop_iff (s : State) (x : Action) : s.ownMark x = .loop ↔
    x = .knit ∧ ¬ (s.head.disabled = true ∨ (s.head.railGood = false ∧ s.head.height ≠ some x.height)) := by
  rw [← State.wouldRefuse_iff, Bool.not_eq_true, State.ownMark]
  split_ifs with loop
  · exact iff_of_true rfl loop
  · exact iff_of_false nofun loop

theorem State.ownMark_ne_none (s : State) (x : Action) : s.ownMark x ≠ .none := by
  unfold State.ownMark
  split_ifs <;> nofun

/-- The entries of a page with one needle marked (R76). -/
theorem Page.entry_mark {p : Page} {n : Nat} (inside : n < p.entries.length) (m : OwnMark) (k : Nat) :
    (p.mark n m).entry k = if k = n then { p.entry n with own := m } else p.entry k := by
  simp only [Page.entry, Page.mark, List.getD_eq_getElem?_getD, List.getElem?_set]
  split_ifs with same other
  · rfl
  · exact absurd same.symm other
  · omega
  · rfl

theorem otherPageKept_markOwn (s u : State) (a : Active) (n : Nat) (x : Action) (claim : u.claim = s.claim) :
    OtherPageKept a.order.row s (u.markOwn a n x) := by
  by_cases cover : a.order.role = .cover
  · rw [State.markOwn_of_cover n x cover, claim]
    exact otherPageKept_changePage s a.order.row _ rfl rfl
  · rw [State.markOwn_of_other n x cover]
    exact ⟨fun p is _ => by rw [claim, is], fun p is _ => by rw [claim, is]⟩

/-! ### The hand-over of a needle with none before it in flight -/

/-- The entry of an arriving needle, with an outcome or without (R77). -/
def entryOf (n : Nat) (counting : Bool) (x : Action) (o : Option NeedleOutcome) : Entry :=
  { needle := n, counting := counting, action := x, outcome := o, breakAfter := false }

/-- The station with the entry of the one needle in flight (R77). -/
def State.inFlight (s : State) (e : Entry) : State := s.setDec { s.dec with outcomes := [e] }

theorem State.enter_of_empty {s : State} (empty : s.dec.outcomes = []) (n : Nat) (counting : Bool) (x : Action)
    (guarded : Bool) : s.enter n counting x guarded =
      s.inFlight (entryOf n counting x (if guarded then some .guarded else none)) := by
  rw [State.enter_of_room (by simp [empty])]
  simp only [empty, List.nil_append]
  rfl

theorem inFlight_resolve (s : State) (n : Nat) (counting : Bool) (x : Action) (o : Option NeedleOutcome) (p : NeedleOutcome) :
    (s.inFlight (entryOf n counting x o)).resolve n p = s.inFlight (entryOf n counting x (some (o.getD p))) := by
  have entry : resolveEntry n p (entryOf n counting x o) = entryOf n counting x (some (o.getD p)) := by
    cases o <;> simp [resolveEntry, entryOf]
  show s.inFlight (resolveEntry n p (entryOf n counting x o)) = _
  rw [entry]

/-- A needle alone in flight leaves with its outcome (R80). -/
theorem inFlight_leave (s : State) (n : Nat) (counting : Bool) (x : Action) (o : NeedleOutcome) :
    (s.inFlight (entryOf n counting x (some o))).leave =
      (s.account (entryOf n counting x (some o)) o).setDec { s.dec with outcomes := [] } := by
  show ((s.inFlight _).account _ o).setDec { ((s.inFlight _).account _ o).dec with outcomes := [] } = _
  rw [State.account_dec, State.inFlight, State.account_setDec]
  rfl

theorem inFlight_waits (s : State) (n : Nat) (counting : Bool) (x : Action) :
    (s.inFlight (entryOf n counting x none)).leave = s.inFlight (entryOf n counting x none) := rfl

section HandOver
variable {s : State} (empty : s.dec.outcomes = []) (enabled : s.head.disabled = false) (good : s.head.railGood = true)
  (idle : s.head.fire = none)
include empty enabled good idle

/-- With the head at its height a needle is answered DONE at once and leaves (R80, R110). -/
theorem handedOver_atHeight (n : Nat) (counting : Bool) (x : Action) (guarded : Bool) (h : Height) (travel : Dir)
    (there : s.head.height = some h) : ((s.enter n counting x guarded).request n h travel).leave =
      (s.account (entryOf n counting x (some (if guarded then .guarded else .done)))
        (if guarded then .guarded else .done)).setDec { s.dec with outcomes := [] } := by
  rw [State.enter_of_empty empty, State.request_of_atHeight (s := s.inFlight _) _ _ _ (by simp [State.inFlight, enabled])
    (by simp [State.inFlight, good])
    (by simp [State.inFlight, idle]) there, inFlight_resolve]
  cases guarded <;> exact inFlight_leave s n counting x _

/-- A fire starts for a needle at another height; a needle that is not guarded waits for its end (R112). -/
theorem handedOver_elsewhere (n : Nat) (counting : Bool) (x : Action) (h : Height) (travel : Dir)
    (elsewhere : s.head.height ≠ some h) : ((s.enter n counting x false).request n h travel).leave =
      (s.inFlight (entryOf n counting x none)).startFire n h := by
  rw [State.enter_of_empty empty, State.request_of_elsewhere (s := s.inFlight _) _ _ _ (by simp [State.inFlight, enabled])
    (by simp [State.inFlight, good])
    (by simp [State.inFlight, idle]) elsewhere]
  exact inFlight_waits (s.startFire n h) n counting x

/-- The one fire for a guarded needle is for LOW, and the needle leaves at once (R68, R80). -/
theorem handedOver_guarded (n : Nat) (h : Height) (travel : Dir) (elsewhere : s.head.height ≠ some h) :
    ((s.enter n true .miss true).request n h travel).leave =
      ((s.startFire n h).account (entryOf n true .miss (some .guarded)) .guarded).setDec { s.dec with outcomes := [] } := by
  rw [State.enter_of_empty empty, State.request_of_elsewhere (s := s.inFlight _) _ _ _ (by simp [State.inFlight, enabled])
    (by simp [State.inFlight, good])
    (by simp [State.inFlight, idle]) elsewhere]
  exact inFlight_leave (s.startFire n h) n true .miss .guarded

end HandOver

/-- An entry that does not count leaves nothing behind (R80). -/
theorem account_uncounted (s : State) (n : Nat) (x : Action) (o : NeedleOutcome) (p : Option NeedleOutcome) :
    s.account (entryOf n false x p) o = s := rfl

/-- In a course that announces nothing a leaving entry is only scored (R80, R83, R84). -/
theorem account_silent {s : State} {a : Active} (active : s.course.active = some a) (silent : a.order.announce = false)
    (n : Nat) (x : Action) (o : NeedleOutcome) (p : Option NeedleOutcome) :
    s.account (entryOf n true x p) o = s.score o x := by
  rw [State.account_eq, if_neg nofun]
  exact State.told_of_silent o ((State.tallied_active s _ o).trans active) (.inr silent)

theorem score_head (s : State) (o : NeedleOutcome) (x : Action) : (s.score o x).head = s.head := (score_frame s o x).same.head_eq

theorem score_choice (s : State) (o : NeedleOutcome) (x : Action) : (s.score o x).course.choice = s.course.choice :=
  (score_frame s o x).get .rowChoice

/-! ### A counting arrival -/

theorem counted_tally_frame (s : State) : Frame [.tally] s s.counted := setTally_frame s _

theorem heldBack_frame (s : State) (a : Active) (n : Nat) : Frame [.tally, .pages] s (s.heldBack a n) :=
  (counted_tally_frame s).then (markOwn_frame _ a n .miss)

theorem decided_frame (s : State) (a : Active) (n : Nat) : Frame [.tally, .float, .pages] s (s.decided a n) := by
  have floated : Frame [.float] s.counted (s.counted.setDec { s.dec with float := (s.chooseAction a n).2 }) :=
    .of (.of_blanked rfl)
  exact ((counted_tally_frame s).then floated (n := [.tally, .float])).then (markOwn_frame _ a n _)

theorem markOwn_tally (s : State) (a : Active) (n : Nat) (x : Action) : (s.markOwn a n x).course.tally = s.course.tally :=
  (markOwn_frame s a n x).get .tally

theorem markOwn_float (s : State) (a : Active) (n : Nat) (x : Action) : (s.markOwn a n x).dec.float = s.dec.float :=
  (markOwn_frame s a n x).get .float

theorem heldBack_tally (s : State) (a : Active) (n : Nat) :
    (s.heldBack a n).course.tally = { s.course.tally with decided := s.course.tally.decided + 1 } :=
  markOwn_tally s.counted a n .miss

theorem decided_tally (s : State) (a : Active) (n : Nat) :
    (s.decided a n).course.tally = { s.course.tally with decided := s.course.tally.decided + 1 } :=
  markOwn_tally (s.counted.setDec _) a n _

theorem decided_float (s : State) (a : Active) (n : Nat) : (s.decided a n).dec.float = (s.chooseAction a n).2 :=
  markOwn_float (s.counted.setDec { s.dec with float := (s.chooseAction a n).2 }) a n _

section Counting
variable {s : State} {a : Active} {n : Nat} (active : s.course.active = some a) (role : a.order.role ≠ .idle)
  (first : a.order.winFirst ≤ n) (last : n ≤ a.order.winLast) (chosen : s.RowChosen a)
include active role first last chosen

/-- A counting arrival in every state: counted, marked and decided, then handed over (R66, R68, R69, R76). -/
theorem arrival_of_every : ∃ u : State, SameExcept [.tally, .float, .pages] s u ∧
    u.course.tally = { s.course.tally with decided := s.course.tally.decided + 1 } ∧
    (a.order.role ≠ .cover → u.claim = s.claim) ∧ OtherPageKept a.order.row s u ∧
    (s.Guarded a → u.dec.float = s.dec.float ∧
      s.arrive n = ((u.enter n true .miss true).request n .low a.travel).leave) ∧
    (¬ s.Guarded a → u.dec.float = (s.chooseAction a n).2 ∧
      s.arrive n = ((u.enter n true (s.chooseAction a n).1 false).request n (s.chooseAction a n).1.height a.travel).leave) := by
  by_cases guarded : s.Guarded a
  · exact ⟨s.heldBack a n, (heldBack_frame s a n).same.mono, heldBack_tally s a n,
      fun other => by rw [State.heldBack, State.markOwn_of_other n .miss other]; rfl,
      otherPageKept_markOwn s s.counted a n .miss rfl,
      fun _ => ⟨(heldBack_frame s a n).get .float, State.arrive_of_guarded active role first last chosen guarded⟩,
      fun free => absurd guarded free⟩
  · exact ⟨s.decided a n, (decided_frame s a n).same, decided_tally s a n,
      fun other => by rw [State.decided, State.markOwn_of_other n _ other]; rfl,
      otherPageKept_markOwn s (s.counted.setDec _) a n _ rfl, fun held => absurd held guarded,
      fun free => ⟨decided_float s a n, State.arrive_of_ranked active role first last chosen free⟩⟩

variable (empty : s.dec.outcomes = []) (silent : a.order.announce = false) (enabled : s.head.disabled = false)
  (good : s.head.railGood = true) (idle : s.head.fire = none)
include empty silent enabled good idle

/-- A guarded needle with none before it in flight (R68). -/
theorem arrival_of_guarded (guarded : s.Guarded a) : let t := s.arrive n
    t.course.tally = { s.course.tally with
      decided := s.course.tally.decided + 1, failed := s.course.tally.failed + 1 } ∧
    t.course.choice = s.course.choice ∧ t.dec.outcomes = [] ∧ t.dec.float = s.dec.float ∧
    t.count .needlesGuarded = min (s.count .needlesGuarded + 1) 65535 ∧
    (s.head.height = some .low → t.head = s.head) ∧
    (s.head.height ≠ some .low → ∃ f, t.head.fire = some f ∧ f.target = .low) := by
  have marked := heldBack_frame s a n
  have head : (s.heldBack a n).head = s.head := marked.same.head_eq
  have clear : (s.heldBack a n).dec.outcomes = [] := (marked.get .outcomes).trans empty
  have running : (s.heldBack a n).course.active = some a := (marked.get .active).trans active
  have choice : (s.heldBack a n).course.choice = s.course.choice := marked.get .rowChoice
  have float : (s.heldBack a n).dec.float = s.dec.float := marked.get .float
  have count : (s.heldBack a n).count .needlesGuarded = s.count .needlesGuarded := marked.count_eq _
  have tally (v : State) (same : v.course.tally = (s.heldBack a n).course.tally) :
      (v.score .guarded .miss).course.tally = { s.course.tally with
        decided := s.course.tally.decided + 1, failed := s.course.tally.failed + 1 } := by
    rw [State.score_tally, same, heldBack_tally]
    rfl
  rw [State.arrive_of_guarded active role first last chosen guarded]
  by_cases there : s.head.height = some .low
  · rw [handedOver_atHeight clear (by rwa [head]) (by rwa [head]) (by rwa [head]) n true .miss true .low a.travel
      (by rwa [head]), if_pos rfl, account_silent running silent]
    refine ⟨tally _ rfl, (score_choice (s.heldBack a n) _ _).trans choice, rfl, float, ?_,
      fun _ => (score_head (s.heldBack a n) _ _).trans head, fun other => absurd there other⟩
    exact (State.count_score _ _ _ _).trans ((if_pos rfl).trans (by rw [count]))
  · rw [handedOver_guarded clear (by rwa [head]) (by rwa [head]) (by rwa [head]) n .low a.travel (by rwa [head]),
      account_silent (s := (s.heldBack a n).startFire n .low) running silent]
    refine ⟨tally _ rfl, (score_choice ((s.heldBack a n).startFire n .low) _ _).trans choice, rfl, float, ?_,
      fun is => absurd is there, fun _ => ⟨⟨.low, some n, (s.heldBack a n).fireTime⟩, ?_, rfl⟩⟩
    · have fired : ((s.heldBack a n).startFire n .low).count .needlesGuarded = s.count .needlesGuarded :=
        ((State.count_bump _ _ _).trans (if_neg (by decide))).trans count
      exact (State.count_score _ _ _ _).trans ((if_pos rfl).trans (by rw [fired]))
    · exact congrArg Head.fire (score_head ((s.heldBack a n).startFire n .low) _ _)

/-- A needle that passes the guard, with none before it in flight (R69, R82, R110, R112). -/
theorem arrival_of_ranked (free : ¬ s.Guarded a) : let t := s.arrive n
    let y := s.chooseAction a n
    t.course.tally.decided = s.course.tally.decided + 1 ∧ t.course.choice = s.course.choice ∧
    t.dec.float = y.2 ∧ t.course.tally.failed = s.course.tally.failed ∧
    (s.head.height = some y.1.height → t.head = s.head ∧ t.dec.outcomes = []) ∧
    (s.head.height ≠ some y.1.height → t.head.fire = some ⟨y.1.height, some n, s.fireTime⟩ ∧
      t.head.height = none ∧ t.head.code = y.1.height ∧ t.dec.outcomes = [entryOf n true y.1 none]) := by
  have marked := decided_frame s a n
  have head : (s.decided a n).head = s.head := marked.same.head_eq
  have clear : (s.decided a n).dec.outcomes = [] := (marked.get .outcomes).trans empty
  have running : (s.decided a n).course.active = some a := (marked.get .active).trans active
  have choice : (s.decided a n).course.choice = s.course.choice := marked.get .rowChoice
  have float := decided_float s a n
  have tally := decided_tally s a n
  have time : (s.decided a n).fireTime = s.fireTime := fireTime_of_mode (marked.get .mode)
  rw [State.arrive_of_ranked active role first last chosen free]
  by_cases there : s.head.height = some (s.chooseAction a n).1.height
  · rw [handedOver_atHeight clear (by rwa [head]) (by rwa [head]) (by rwa [head]) n true _ false _ a.travel
      (by rwa [head]), if_neg nofun, account_silent running silent]
    have scored := (State.score_tally (s.decided a n) .done (s.chooseAction a n).1).trans (by rw [tally])
    refine ⟨(congrArg Tally.decided scored).trans (Tally.add_decided _ _),
      (score_choice (s.decided a n) _ _).trans choice, float, (congrArg Tally.failed scored).trans ?_,
      fun _ => ⟨(score_head (s.decided a n) _ _).trans head, rfl⟩, fun other => absurd there other⟩
    cases (s.chooseAction a n).1 <;> rfl
  · rw [handedOver_elsewhere clear (by rwa [head]) (by rwa [head]) (by rwa [head]) n true _ _ a.travel (by rwa [head])]
    exact ⟨congrArg Tally.decided tally, choice, float, (congrArg Tally.failed tally).trans rfl, fun is => absurd is there,
      fun _ => ⟨congrArg (fun k => some (Fire.mk _ (some n) k)) time, rfl, rfl, rfl⟩⟩

end Counting

/-! ### An arrival that does not count -/

theorem request_outcomes (s : State) (n : Nat) (h : Height) (travel : Dir) :
    (s.request n h travel).dec.outcomes = s.dec.outcomes ∨
    ∃ m o, (s.request n h travel).dec.outcomes = s.dec.outcomes.map (resolveEntry m o) := by
  unfold State.request
  split_ifs
  · exact .inr ⟨n, _, rfl⟩
  · exact .inr ⟨n, _, rfl⟩
  · exact .inr ⟨n, _, rfl⟩
  · unfold State.replaceWaiting
    cases s.head.waiting with
    | none => exact .inl rfl
    | some old => exact .inr ⟨old.needle, _, rfl⟩
  · exact .inr ⟨n, _, rfl⟩
  · exact .inl rfl

/-- Of one entry that does not count nothing is left behind as it leaves (R80). -/
theorem leave_uncounted (s : State) (n : Nat) (x : Action) (o : Option NeedleOutcome)
    (alone : s.dec.outcomes = [entryOf n false x o]) : ∃ l, s.leave = s.setDec { s.dec with outcomes := l } := by
  unfold State.leave
  rw [alone]
  cases o with
  | none => exact ⟨_, rfl⟩
  | some o => exact ⟨[], rfl⟩

/-- A needle handed over without being entered to count leaves course counters and open run alone (R67, R80). -/
theorem handedOver_uncounted (s : State) (a : Active) (n : Nat) (empty : s.dec.outcomes = []) :
    let t := ((s.enter n false .miss false).request n .low a.travel).leave
    t.course.tally = s.course.tally ∧ t.claim.run = s.claim.run := by
  have asked := request_frame (s.enter n false .miss false) n .low a.travel
  have alone : ∃ o, ((s.enter n false .miss false).request n .low a.travel).dec.outcomes = [entryOf n false .miss o] := by
    rw [State.enter_of_empty empty]
    rcases request_outcomes (s.inFlight (entryOf n false .miss none)) n .low a.travel with same | ⟨m, o, answered⟩
    · exact ⟨none, same⟩
    · refine ⟨if n = m then some o else none, answered.trans ?_⟩
      by_cases here : n = m <;> simp [State.inFlight, resolveEntry, entryOf, here]
  obtain ⟨o, alone⟩ := alone
  obtain ⟨l, left⟩ := leave_uncounted _ n .miss o alone
  have entered : (s.enter n false .miss false).course.tally = s.course.tally ∧
      (s.enter n false .miss false).claim.run = s.claim.run := by
    rw [State.enter_of_empty empty]
    exact ⟨rfl, rfl⟩
  simp only [left]
  exact ⟨(asked.get .tally).trans entered.1, (asked.get .openRun).trans entered.2⟩

/-- A needle outside the window, or of an IDLE course (R67). -/
theorem arrival_of_uncounted {s : State} {a : Active} {n : Nat} (active : s.course.active = some a)
    (outside : a.order.role = .idle ∨ n < a.order.winFirst ∨ a.order.winLast < n) : let t := s.arrive n
    t = ((s.enter n false .miss false).request n .low a.travel).leave ∧
    t.course.choice = s.course.choice ∧ t.dec.float = s.dec.float ∧ t.claim.page0 = s.claim.page0 ∧
    t.claim.page1 = s.claim.page1 ∧
    (s.dec.outcomes = [] → t.course.tally = s.course.tally ∧ t.claim.run = s.claim.run) ∧
    (s.dec.outcomes = [] → s.head.disabled = false → s.head.railGood = true → s.head.fire = none →
      (s.head.height = some .low → SameExcept [] s t) ∧
      (s.head.height ≠ some .low → SameExcept [.headHeight, .headCode, .headFire, .outcomes, .counts] s t ∧
        t.head.fire = some ⟨.low, some n, s.fireTime⟩ ∧ CountsExcept [.firesStarted] s t ∧
        t.dec.outcomes = [⟨n, false, .miss, none, false⟩])) := by
  have kept := handOver_frame s a n false .miss false
  obtain ⟨page0, page1⟩ := kept.get .pages
  rw [State.arrive_of_uncounted active outside]
  refine ⟨rfl, kept.get .rowChoice, kept.get .float, page0, page1, handedOver_uncounted s a n, fun empty enabled good idle =>
    ⟨fun there => ?_, fun elsewhere => ?_⟩⟩
  · rw [handedOver_atHeight empty enabled good idle n false .miss false .low a.travel there, account_uncounted]
    have same : s.setDec { s.dec with outcomes := [] } = s := by
      rw [← empty]
      rfl
    rw [same]
    exact .refl _ s
  · rw [handedOver_elsewhere empty enabled good idle n false .miss .low a.travel elsewhere]
    have fired := (setDec_outcomes_frame s [entryOf n false .miss none]).then (startFire_frame _ n .low)
      (n := [.headHeight, .headCode, .headFire, .outcomes, .counts])
    refine ⟨fired.same, rfl, ?_, rfl⟩
    exact CountsExcept.of_startFire (s.inFlight (entryOf n false .miss none)) n .low

/-! ### The own mark of an arrival -/

theorem pageOf_of_pages {s t : State} (page0 : t.claim.page0 = s.claim.page0) (page1 : t.claim.page1 = s.claim.page1)
    (row : Word16) : t.claim.pageOf row = s.claim.pageOf row := by
  simp only [ClaimUnit.pageOf, page0, page1]

/-- The page of a COVER course after a counting arrival (R76). -/
theorem arrival_marks {s : State} {a : Active} {n : Nat} {p : Page} (active : s.course.active = some a)
    (cover : a.order.role = .cover) (first : a.order.winFirst ≤ n) (last : n ≤ a.order.winLast)
    (chosen : s.course.choice ≠ none) (bound : s.claim.pageOf a.order.row = some p) (inside : n < p.entries.length) :
    ∃ p', (s.arrive n).claim.pageOf a.order.row = some p' ∧ (∀ k, k ≠ n → p'.entry k = p.entry k) ∧
      (p'.entry n).heard = (p.entry n).heard ∧ (p'.entry n).looped = (p.entry n).looped ∧
      ((p'.entry n).own = .loop ↔ ¬ s.Guarded a ∧ (s.chooseAction a n).1 = .knit ∧
        ¬ (s.head.disabled = true ∨ (s.head.railGood = false ∧ s.head.height ≠ some (s.chooseAction a n).1.height))) ∧
      (p'.entry n).own ≠ .none := by
  have role : a.order.role ≠ .idle := by simp [cover]
  have marked (x : Action) (t : State) (claim : t.claim = s.claim) : (t.markOwn a n x).claim.pageOf a.order.row =
      some (p.mark n (t.ownMark x)) := by
    rw [State.markOwn_of_cover n x cover, claim]
    exact (ClaimUnit.pageOf_changePage (f := fun q => q.mark n (t.ownMark x)) (fun _ => rfl) s.claim _).trans (by rw [bound]; rfl)
  have shown (m : OwnMark) := Page.entry_mark inside m
  have own (x : Action) : (((p.mark n (s.ownMark x)).entry n).own = .loop ↔ x = .knit ∧
      ¬ (s.head.disabled = true ∨ (s.head.railGood = false ∧ s.head.height ≠ some x.height))) := by
    rw [shown, if_pos rfl]
    exact State.ownMark_loop_iff s x
  have others (m : OwnMark) : (∀ k, k ≠ n → (p.mark n m).entry k = p.entry k) ∧
      ((p.mark n m).entry n).heard = (p.entry n).heard ∧ ((p.mark n m).entry n).looped = (p.entry n).looped ∧
      ((p.mark n m).entry n).own = m := by
    refine ⟨fun k other => by rw [shown, if_neg other], ?_⟩
    rw [shown, if_pos rfl]
    exact ⟨rfl, rfl, rfl⟩
  have handed (u : State) (x : Action) (g : Bool) := handOver_frame u a n true x g
  by_cases guarded : s.Guarded a
  · obtain ⟨rest, heard, looped, is⟩ := others (s.ownMark .miss)
    obtain ⟨page0, page1⟩ := (handed (s.heldBack a n) .miss true).get .pages
    rw [State.arrive_of_guarded active role first last (.inl chosen) guarded]
    refine ⟨_, (pageOf_of_pages page0 page1 _).trans (marked .miss s.counted rfl), rest, heard, looped, ?_, ?_⟩
    · exact (own .miss).trans (iff_of_false (fun h => nomatch h.1) fun h => h.1 guarded)
    · exact fun none => State.ownMark_ne_none s _ (is.symm.trans none)
  · obtain ⟨rest, heard, looped, is⟩ := others (s.ownMark (s.chooseAction a n).1)
    obtain ⟨page0, page1⟩ := (handed (s.decided a n) (s.chooseAction a n).1 false).get .pages
    rw [State.arrive_of_ranked active role first last (.inl chosen) guarded]
    refine ⟨_, (pageOf_of_pages page0 page1 _).trans (marked _ (s.counted.setDec _) rfl), rest, heard, looped, ?_, ?_⟩
    · exact (own _).trans (and_iff_right guarded).symm
    · exact fun none => State.ownMark_ne_none s _ (is.symm.trans none)

/-- Settles O33: guard and ranking, the hand-over by the head's height, and the needle that does not count. -/
theorem arrivingNeedleIsDecidedAndDriven : Obligations.ArrivingNeedleIsDecidedAndDriven := by
  refine ⟨⟨rfl, rfl, rfl, rfl, rfl⟩, fun s a n active role first last chosen empty silent enabled good idle => ?_,
    fun s a n active reads first last unchosen => arrive_chooses active reads first last unchosen,
    fun s a n active role first last chosen => arrival_of_every active role first last chosen,
    fun s a n active outside => arrival_of_uncounted active outside,
    fun s a n p active cover first last chosen bound inside => arrival_marks active cover first last chosen bound inside⟩
  have held := arrival_of_guarded active role first last chosen empty silent enabled good idle
  have ranked := arrival_of_ranked active role first last chosen empty silent enabled good idle
  by_cases guarded : s.Guarded a
  · obtain ⟨tally, choice, gone, float, count, low, fired⟩ := held guarded
    exact ⟨congrArg Tally.decided tally, choice, fun _ => ⟨congrArg Tally.failed tally, gone, float, count, low, fired⟩,
      fun free => absurd guarded free⟩
  · obtain ⟨decided, choice, float, failed, there, elsewhere⟩ := ranked guarded
    refine ⟨decided, choice, fun held => absurd held guarded, fun _ => ⟨float, failed, there, fun other => ?_⟩⟩
    obtain ⟨fire, height, code, waits⟩ := elsewhere other
    exact ⟨fire, height, code, _, waits, rfl, rfl, rfl, rfl⟩

end Sys2Proof.Machine
end

section
/-! PROOF. The end of a course (R34, R36, R37, R59 to R62, R85, R97, R123, R145, R156, R187). -/

namespace Sys2Proof.Machine

/-! ### What closing runs leave alone -/

theorem isCourseFlag_of_flags {s t : State} (flags : t.course.flags = s.course.flags) (f : CourseFlag) :
    t.isCourseFlag f = s.isCourseFlag f := by
  simp only [State.isCourseFlag, flags]

/-- The count of needles ended, and the mark of a missed carrier. -/
structure State.EndsShown (k : Nat) (b : Bool) (s : State) : Prop where
  ended : s.count .needlesEnded = k
  missed : s.isCourseFlag .carrierMissed = b

section Runs
variable {k : Nat} {b : Bool} {s : State} (before : s.EndsShown k b)
include before

theorem endsShown_setClaim (c : ClaimUnit) : (s.setClaim c).EndsShown k b := ⟨before.ended, before.missed⟩

theorem endsShown_closeRun : s.closeRun.EndsShown k b := by
  cases open_ : s.claim.run with
  | none => simpa only [State.closeRun, open_] using before
  | some y =>
    cases active : s.course.active with
    | none =>
      simp only [State.closeRun, State.formClaim, open_, active, State.setClaim_course]
      exact endsShown_setClaim before _
    | some a =>
      obtain ⟨_, _, room, full⟩ := closeRun_forms s a y active open_
      obtain less | more := Nat.lt_or_ge s.line.list.length 16
      · obtain ⟨same, counts, _⟩ := room less
        exact ⟨(counts .needlesEnded (by decide)).trans before.ended,
          (isCourseFlag_of_flags (same .courseFlags (by decide)) _).trans before.missed⟩
      · obtain ⟨_, _, flags, counts, _⟩ := full more
        exact ⟨(counts .needlesEnded (by decide)).trans before.ended, (flags .carrierMissed (by decide)).trans before.missed⟩

theorem endsShown_handRun (a : Active) (n : Nat) (x : NeedleResult) : (s.handRun a n x).EndsShown k b := by
  have differing : (s.closeDiffering x).EndsShown k b := by
    unfold State.closeDiffering
    split
    · split_ifs
      · exact before
      · exact endsShown_closeRun before
    · exact before
  show ((s.closeDiffering x).joinRun a n x).EndsShown k b
  unfold State.joinRun
  dsimp only
  split_ifs
  · exact endsShown_closeRun (endsShown_setClaim differing _)
  · exact endsShown_setClaim differing _

theorem endsShown_told (e : Entry) (o : NeedleOutcome) : (s.told e o).EndsShown k b := by
  unfold State.told State.announce
  split
  · split
    · split
      · exact endsShown_handRun before _ _ _
      · exact before
    · exact before
  · exact before

end Runs

/-- An entry that leaves as ENDED is counted, if it counts (R84, R85). -/
theorem endsShown_account (s : State) (e : Entry) (o : NeedleOutcome) : (s.account e o).EndsShown
    (if e.counting = true ∧ o = .ended then min (s.count .needlesEnded + 1) 65535 else s.count .needlesEnded)
    (s.isCourseFlag .carrierMissed) := by
  have tallied : (s.tallied e o).EndsShown
      (if e.counting = true ∧ o = .ended then min (s.count .needlesEnded + 1) 65535 else s.count .needlesEnded)
      (s.isCourseFlag .carrierMissed) := by
    refine ⟨?_, isCourseFlag_of_flags ((State.tallied_frame s e o).get .courseFlags) _⟩
    unfold State.tallied
    cases e.counting with
    | false => simp
    | true =>
      rw [if_pos rfl, State.count_score]
      cases o <;> simp [NeedleOutcome.counter]
  have told := endsShown_told tallied e o
  rw [State.account_eq]
  by_cases broken : e.breakAfter = true
  · rw [if_pos broken]
    exact endsShown_closeRun told
  · rw [if_neg broken]
    exact told

/-! ### The outcome list of an ended course -/

/-- The number of entries that leave as ENDED and count (R84, R85). -/
def endedIn (l : List Entry) : Nat := l.countP fun e => e.counting && (e.outcome == none || e.outcome == some .ended)

/-- The number of entries that leave with a failed result and count (R82, R83). -/
def failedIn (l : List Entry) : Nat := l.countP fun e => e.counting && e.outcome != some .done

theorem add_resultOf_failed (y : Tally) (o : NeedleOutcome) (x : Action) :
    (y.add (resultOf o x)).failed = y.failed + if o = .done then 0 else 1 := by
  cases o with
  | done => cases x <;> rfl
  | _ => rfl

theorem account_failed (s : State) (e : Entry) (o : NeedleOutcome) : (s.account e o).course.tally.failed =
    s.course.tally.failed + if e.counting = true ∧ o ≠ .done then 1 else 0 := by
  have handed : (s.account e o).course.tally = (s.tallied e o).course.tally := (tallied_account_frame s e o).get .tally
  rw [handed, State.tallied]
  cases e.counting with
  | false => simp
  | true =>
    rw [if_pos rfl, State.score_tally, add_resultOf_failed]
    by_cases done : o = .done <;> simp [done]

/-- A list of FINAL entries leaves whole, each accounted by its result (R80, R83). -/
theorem leaveFrom_failed (l : List Entry) (s : State) (final : ∀ e ∈ l, e.outcome ≠ none) :
    (leaveFrom l s).course.tally.failed = s.course.tally.failed + failedIn l := by
  induction l generalizing s with
  | nil => rfl
  | cons e es ih =>
    obtain ⟨o, outcome⟩ := Option.ne_none_iff_exists'.1 (final e List.mem_cons_self)
    have next : leaveFrom (e :: es) s = leaveFrom es (s.account e o) := by rw [leaveFrom, outcome]
    rw [next, ih _ fun d member => final d (List.mem_cons_of_mem _ member), account_failed, failedIn, failedIn,
      List.countP_cons, outcome]
    have shown : (e.counting && some o != some .done) = true ↔ e.counting = true ∧ o ≠ .done := by simp
    simp only [shown]
    omega

/-- A list of FINAL entries leaves whole, the ENDED ones counted, and flags no missed carrier (R84, R85). -/
theorem leaveFrom_ended (l : List Entry) (s : State) (final : ∀ e ∈ l, e.outcome ≠ none) :
    (leaveFrom l s).isCourseFlag .carrierMissed = s.isCourseFlag .carrierMissed ∧
    (s.count .needlesEnded ≤ 65535 → (leaveFrom l s).count .needlesEnded = min (s.count .needlesEnded + endedIn l) 65535) := by
  induction l generalizing s with
  | nil => exact ⟨rfl, fun fits => (Nat.min_eq_left fits).symm⟩
  | cons e es ih =>
    obtain ⟨o, outcome⟩ := Option.ne_none_iff_exists'.1 (final e List.mem_cons_self)
    have next : leaveFrom (e :: es) s = leaveFrom es (s.account e o) := by rw [leaveFrom, outcome]
    obtain ⟨count, flag⟩ := endsShown_account s e o
    obtain ⟨kept, counted⟩ := ih (s.account e o) fun d member => final d (List.mem_cons_of_mem _ member)
    have shown : (e.counting && (some o == none || some o == some .ended)) = true ↔ e.counting = true ∧ o = .ended := by simp
    have total : endedIn (e :: es) = endedIn es + if e.counting = true ∧ o = .ended then 1 else 0 := by
      rw [endedIn, endedIn, List.countP_cons, outcome]
      simp only [shown]
    rw [next, total]
    refine ⟨kept.trans flag, fun fits => ?_⟩
    rw [count] at counted
    by_cases ends : e.counting = true ∧ o = .ended
    · simp only [if_pos ends] at counted ⊢
      exact (counted (Nat.min_le_right _ _)).trans (saturated_add _ _)
    · simp only [if_neg ends] at counted ⊢
      exact counted fits

theorem endEntry_eq : endEntry = fun e => { e with outcome := some (e.outcome.getD .ended) } := by
  funext e
  obtain ⟨n, c, x, _ | o, b⟩ := e <;> rfl

theorem endEntry_final (l : List Entry) : ∀ e ∈ l.map endEntry, e.outcome ≠ none := by
  rw [endEntry_eq]
  simp

theorem failedIn_endEntry (l : List Entry) : failedIn (l.map endEntry) = failedIn l := by
  rw [failedIn, List.countP_map]
  refine List.countP_congr fun e _ => ?_
  obtain ⟨n, c, x, _ | o, b⟩ := e <;> simp [endEntry]

theorem endedIn_endEntry (l : List Entry) : endedIn (l.map endEntry) = endedIn l := by
  rw [endedIn, List.countP_map]
  refine List.countP_congr fun e _ => ?_
  obtain ⟨n, c, x, _ | o, b⟩ := e <;> simp [endEntry]

/-- The station with every entry of the list FINAL (R85). -/
def State.allFinal (s : State) : State := s.setDec { s.dec with outcomes := s.dec.outcomes.map endEntry }

/-- The list closed, and the open run with it (R85). -/
def State.listClosed (s : State) : State := s.allFinal.leave.closeRun

theorem State.closeOutcomes_eq (s : State) :
    s.closeOutcomes = s.listClosed.setDec { s.listClosed.dec with float := 0 } := rfl

theorem listClosed_failed (s : State) :
    s.listClosed.course.tally.failed = s.course.tally.failed + failedIn s.dec.outcomes := by
  have closed : s.listClosed.course.tally = s.allFinal.leave.course.tally := (closeRun_frame _).get .tally
  have left : s.allFinal.leave.course.tally.failed = s.course.tally.failed + failedIn (s.dec.outcomes.map endEntry) :=
    leaveFrom_failed _ s.allFinal (endEntry_final _)
  rw [closed, left, failedIn_endEntry]

theorem listClosed_ended (s : State) : s.listClosed.isCourseFlag .carrierMissed = s.isCourseFlag .carrierMissed ∧
    (s.count .needlesEnded ≤ 65535 →
      s.listClosed.count .needlesEnded = min (s.count .needlesEnded + endedIn s.dec.outcomes) 65535) := by
  obtain ⟨flag, counted⟩ := leaveFrom_ended _ s.allFinal (endEntry_final s.dec.outcomes)
  obtain ⟨count, kept⟩ := endsShown_closeRun (s := s.allFinal.leave) ⟨rfl, rfl⟩
  rw [endedIn_endEntry] at counted
  exact ⟨kept.trans flag, fun fits => count.trans (counted fits)⟩

/-- With no run open and nothing announced the list leaves the line alone (R80, R92). -/
theorem leaveFrom_silent {a : Active} (silent : a.order.announce = false) (l : List Entry) (s : State)
    (active : s.course.active = some a) (closed : s.claim.run = none) :
    (leaveFrom l s).line.list = s.line.list ∧ (leaveFrom l s).claim.run = none := by
  induction l generalizing s with
  | nil => exact ⟨rfl, closed⟩
  | cons e es ih =>
    unfold leaveFrom
    split
    next o _ =>
      have tallied := State.tallied_frame s e o
      have running : (s.tallied e o).course.active = some a := (State.tallied_active s e o).trans active
      have run : (s.tallied e o).claim.run = none := (tallied.get .openRun).trans closed
      have accounted : s.account e o = s.tallied e o := by
        rw [State.account_eq, State.told_of_silent o running (.inr silent)]
        split_ifs
        · simp only [State.closeRun, run]
        · rfl
      rw [accounted]
      obtain ⟨list, still⟩ := ih (s.tallied e o) running run
      exact ⟨list.trans (tallied.get .transmitList), still⟩
    · exact ⟨rfl, closed⟩

theorem listClosed_list {s : State} {a : Active} (active : s.course.active = some a) (silent : a.order.announce = false)
    (closed : s.claim.run = none) : s.listClosed.line.list = s.line.list := by
  obtain ⟨list, run⟩ : s.allFinal.leave.line.list = s.line.list ∧ s.allFinal.leave.claim.run = none :=
    leaveFrom_silent silent _ s.allFinal active closed
  have still : s.listClosed = s.allFinal.leave := by simp only [State.listClosed, State.closeRun, run]
  rw [still, list]

/-! ### Pin and carrier -/

theorem pinSettled_pin (s : State) :
    (∀ c p, s.carr.pin = .engaged c p → s.pinSettled.carr.pin = .releasing c p s.fireTime false) ∧
    (∀ c p d o, s.carr.pin = .engaging c p d o → s.pinSettled.carr.pin = .engaging c p d false) ∧
    ((∀ c p, s.carr.pin ≠ .engaged c p) → (∀ c p d o, s.carr.pin ≠ .engaging c p d o) →
      s.pinSettled.carr.pin = s.carr.pin) := by
  unfold State.pinSettled State.startRelease
  cases pin : s.carr.pin with
  | released => exact ⟨nofun, nofun, fun _ _ => pin⟩
  | engaging c p d o => exact ⟨nofun, fun _ _ _ _ same => by cases same; rfl, fun _ other => absurd rfl (other c p d o)⟩
  | engaged c p => exact ⟨fun _ _ same => by cases same; rfl, nofun, fun other _ => absurd rfl (other c p)⟩
  | releasing c p d o => exact ⟨nofun, nofun, fun _ _ => pin⟩

theorem State.waitFlagged_of_waiting {s : State} {cc : CourseCarrier} (course : s.carr.course = some cc)
    (own : cc.source = .own) (waiting : cc.state = .waiting) : s.waitFlagged = s.setCourseFlag .carrierMissed := by
  simp only [State.waitFlagged, course]
  exact if_pos ⟨own, waiting⟩

theorem isRecorded_setCourseFlag_of_other {s : State} {f : CourseFlag} {c : StopCause} (other : f.cause ≠ some c) :
    (s.setCourseFlag f).isRecorded c = s.isRecorded c := by
  unfold State.setCourseFlag State.raiseFor
  split_ifs
  · rfl
  · split
    next d cause =>
      rw [State.isRecorded_raise, decide_eq_false fun same => other (cause.trans (congrArg some same)), Bool.or_false]
      rfl
    · rfl

theorem waitFlagged_recorded {s : State} {c : StopCause} (other : c ≠ .carrierMissed) :
    s.waitFlagged.isRecorded c = s.isRecorded c := by
  unfold State.waitFlagged
  split
  · split_ifs
    · exact isRecorded_setCourseFlag_of_other fun same => other (Option.some.inj same).symm
    · rfl
  · rfl

/-- The fire detached from its needle, the pending request dropped (R123). -/
def State.detached (s : State) : State := s.closeOutcomes.detachFire

theorem detached_frame (s : State) : Frame (([.float, .headWaiting, .headFire] : List Part) ++ leaveParts) s s.detached :=
  (closeOutcomes_frame s).then (detachFire_frame _)

theorem settledEnd_eq (s : State) : s.settledEnd = s.detached.pinSettled.waitFlagged.setCarr
    { s.detached.pinSettled.waitFlagged.carr with course := none } := rfl

theorem detached_settledEnd_frame (s : State) : Frame judgeParts s.detached s.settledEnd := settleCarrier_frame _

/-- What the later steps of a course end leave of its first three. -/
theorem settledEnd_endCourse_frame (s : State) (a : Active) :
    Frame [.transmitList, .counts, .history, .causes, .latch, .rowSlots, .rowPinned, .pages, .active, .posFrontier]
      s.settledEnd (s.endCourse a) := by
  have verdict := (reportedEnd_frame s a).then (verdictEnd_frame s a) (n := [.transmitList, .counts, .history, .causes, .latch])
  have released := verdict.then (releasedEnd_frame s a) (n := [.transmitList, .counts, .history, .causes, .latch, .rowSlots,
    .rowPinned, .pages])
  rw [State.endCourse_eq]
  exact released.then (retired_frame _)

/-- What the end leaves of the REPORT's placing. -/
theorem reportedEnd_endCourse_frame (s : State) (a : Active) :
    Frame [.history, .causes, .latch, .rowSlots, .rowPinned, .pages, .active, .posFrontier] (s.reportedEnd a) (s.endCourse a) := by
  rw [State.endCourse_eq]
  exact ((verdictEnd_frame s a).then (releasedEnd_frame s a)
    (n := [.history, .causes, .latch, .rowSlots, .rowPinned, .pages])).then (retired_frame _)

section Settled
variable (s : State) (a : Active)

theorem endCourse_carr : (s.endCourse a).carr = s.settledEnd.carr := (settledEnd_endCourse_frame s a).same.carr_eq

theorem endCourse_head : (s.endCourse a).head =
    { s.head with waiting := none, fire := s.head.fire.map fun f => { f with needle := none } } := by
  have closed : s.closeOutcomes.head = s.head := (closeOutcomes_frame s).same.head_eq
  calc (s.endCourse a).head = s.settledEnd.head := (settledEnd_endCourse_frame s a).same.head_eq
    _ = s.detached.head := (detached_settledEnd_frame s).same.head_eq
    _ = { s.closeOutcomes.head with
          waiting := none, fire := s.closeOutcomes.head.fire.map fun f => { f with needle := none } } := rfl
    _ = _ := by rw [closed]

theorem endCourse_dec : (s.endCourse a).dec.outcomes = [] ∧ (s.endCourse a).dec.float = 0 := by
  have outcomes : s.settledEnd.dec.outcomes = s.closeOutcomes.dec.outcomes := (detached_settledEnd_frame s).get .outcomes
  have float : s.settledEnd.dec.float = s.closeOutcomes.dec.float := (detached_settledEnd_frame s).get .float
  have ended := settledEnd_endCourse_frame s a
  exact ⟨(ended.get .outcomes).trans (outcomes.trans (closeOutcomes_outcomes s)), (ended.get .float).trans float⟩

theorem settledEnd_pin : s.settledEnd.carr.pin = s.detached.pinSettled.carr.pin :=
  (waitFlagged_frame s.detached.pinSettled).get .pin

/-- The pin after a course end (R145). -/
theorem endCourse_pin :
    (∀ c p, s.carr.pin = .engaged c p → (s.endCourse a).carr.pin = .releasing c p s.fireTime false) ∧
    (∀ c p d o, s.carr.pin = .engaging c p d o → (s.endCourse a).carr.pin = .engaging c p d false) ∧
    ((∀ c p, s.carr.pin ≠ .engaged c p) → (∀ c p d o, s.carr.pin ≠ .engaging c p d o) →
      (s.endCourse a).carr.pin = s.carr.pin) := by
  have before : s.detached.carr.pin = s.carr.pin := (detached_frame s).get .pin
  have time : s.detached.fireTime = s.fireTime := fireTime_of_mode ((detached_frame s).get .mode)
  have settled := pinSettled_pin s.detached
  rw [before, time] at settled
  rw [endCourse_carr, settledEnd_pin]
  exact settled

/-- The tally of the course as its REPORT shows it (R59, R85). -/
theorem endCourse_tally : (s.endCourse a).course.tally = s.listClosed.course.tally := by
  have settled : s.settledEnd.course.tally = s.closeOutcomes.course.tally := (detached_settledEnd_frame s).get .tally
  exact ((settledEnd_endCourse_frame s a).get .tally).trans settled

theorem settledEnd_counts : s.settledEnd.counts = s.listClosed.counts := (detached_settledEnd_frame s).get .counts

theorem endCourse_ended (fits : s.count .needlesEnded ≤ 65535) :
    (s.endCourse a).count .needlesEnded = min (s.count .needlesEnded + endedIn s.dec.outcomes) 65535 := by
  have offered : (s.reportedEnd a).count .needlesEnded = s.settledEnd.count .needlesEnded :=
    State.count_offer_of_ne _ _ (show Counter.needlesEnded ≠ .reportDrops by decide)
  have settled : s.settledEnd.count .needlesEnded = s.listClosed.count .needlesEnded := by
    simp only [State.count, settledEnd_counts]
  exact ((reportedEnd_endCourse_frame s a).count_eq _).trans (offered.trans (settled.trans ((listClosed_ended s).2 fits)))

/-- A SELF carrier still waited for at a course end is missed (R139, R145). -/
theorem endCourse_missed {cc : CourseCarrier} (course : s.carr.course = some cc) (own : cc.source = .own)
    (waiting : cc.state = .waiting) : Flagged s (s.endCourse a) .carrierMissed .carrierMissed := by
  have before : s.detached.pinSettled.carr.course = some cc :=
    ((pinSettled_frame s.detached).get .courseCarrier).trans (((detached_frame s).get .courseCarrier).trans course)
  have clear : s.detached.pinSettled.isCourseFlag .carrierMissed = s.isCourseFlag .carrierMissed :=
    (isCourseFlag_of_flags ((pinSettled_frame s.detached).get .courseFlags) _).trans (listClosed_ended s).1
  obtain ⟨set, raised⟩ := flagged_setCourseFlag s.detached.pinSettled (f := .carrierMissed) (c := .carrierMissed) rfl
  rw [← State.waitFlagged_of_waiting before own waiting, clear] at raised
  rw [← State.waitFlagged_of_waiting before own waiting] at set
  have ended := settledEnd_endCourse_frame s a
  refine ⟨(isCourseFlag_of_flags (ended.get .courseFlags) _).trans set, fun unset => ?_⟩
  obtain ⟨recorded, stopped⟩ := raised unset
  exact ⟨ended.rises.causes _ recorded, ended.rises.latch stopped⟩

end Settled

/-! ### The verdict -/

theorem pushVerdict_toList (h : Vector Bool 8) (v : Bool) : (pushVerdict h v).toList = v :: h.toList.dropLast := by
  refine List.ext_getElem (by simp) fun k inside _ => ?_
  have bound : k < 8 := by simpa using inside
  interval_cases k <;> simp [pushVerdict]

/-- The cause UNCLEAN after a verdict (R187). -/
theorem enterVerdict_unclean {s : State} {r : SetupRec} (taken : s.setup? = some r) (v : Bool) :
    (r.unclean < (s.enterVerdict v).ctl.history.toList.count true →
      (s.enterVerdict v).isRecorded .unclean = true ∧ (s.enterVerdict v).ctl.latch = true) ∧
    ((s.enterVerdict v).ctl.history.toList.count true ≤ r.unclean →
      (s.enterVerdict v).isRecorded .unclean = s.isRecorded .unclean) := by
  have shape : s.enterVerdict v = if r.unclean < uncleanCount (pushVerdict s.ctl.history v)
      then (s.setCtl { s.ctl with history := pushVerdict s.ctl.history v }).raise .unclean
      else s.setCtl { s.ctl with history := pushVerdict s.ctl.history v } := by
    simp only [State.enterVerdict, State.param_of_setup taken]
  rw [shape]
  split_ifs with many
  · exact ⟨fun _ => ⟨(State.isRecorded_raise _ _ _).trans (by simp), rfl⟩, fun few => absurd many (Nat.not_lt.2 few)⟩
  · exact ⟨fun more => absurd more many, fun _ => rfl⟩

/-! ### The slots of the row store -/

/-- What a slot holds, but for its arrival number. -/
def Slot.content (y : Slot) : SlotState × Word16 × Nat × List Span := (y.state, y.row, y.count, y.spans)

theorem RowStore.free_content (u : RowStore) (i j : Fin 4) :
    (u.free i).slots[j].map Slot.content = if i = j then none else u.slots[j].map Slot.content := by
  cases held : u.slots[i] with
  | none =>
    have same : u.free i = u := by simp only [RowStore.free, held]
    rw [same]
    split_ifs with here
    · rw [← here, held]
      rfl
    · rfl
  | some x =>
    rw [RowStore.free_slot u i j x held]
    split_ifs
    · rfl
    · cases u.slots[j] with
      | none => rfl
      | some z => by_cases above : x.seq < z.seq <;> simp [Slot.content, above]

theorem foldl_free_content (freed : Fin 4 → Bool) (l : List (Fin 4)) (u : RowStore) (j : Fin 4) :
    (l.foldl (fun u i => if freed i then u.free i else u) u).slots[j].map Slot.content =
      if j ∈ l ∧ freed j = true then none else u.slots[j].map Slot.content := by
  induction l generalizing u with
  | nil => simp
  | cons i l ih =>
    rw [List.foldl_cons, ih]
    by_cases later : j ∈ l ∧ freed j = true
    · rw [if_pos later, if_pos ⟨List.mem_cons_of_mem _ later.1, later.2⟩]
    · rw [if_neg later]
      by_cases here : i = j
      · subst here
        cases is : freed i with
        | true => rw [if_pos rfl, RowStore.free_content, if_pos rfl, if_pos ⟨List.mem_cons_self, rfl⟩]
        | false => simp
      · have others : j ∈ i :: l ∧ freed j = true ↔ j ∈ l ∧ freed j = true := by
          simp [List.mem_cons, Ne.symm here]
        rw [if_neg (others.not.2 later)]
        split_ifs
        · rw [RowStore.free_content, if_neg here]
        · rfl

theorem foldl_free_pinned (freed : Fin 4 → Bool) (l : List (Fin 4)) (u : RowStore) :
    (l.foldl (fun u i => if freed i then u.free i else u) u).pinned = u.pinned := by
  induction l generalizing u with
  | nil => rfl
  | cons i l ih =>
    rw [List.foldl_cons, ih]
    split_ifs
    · exact RowStore.free_pinned u i
    · rfl

theorem RowStore.movePin_pinned (u : RowStore) (row : Word16) (clean : Bool) : (u.movePin row clean).pinned =
    if clean = true ∧ u.find row ≠ none then u.find row else u.pinned := by
  unfold RowStore.movePin
  cases clean with
  | false => simp
  | true => cases found : u.find row <;> simp

/-- The pin and the slots after the row store's part of a course end (R36, R37). -/
theorem releaseRows_spec (s : State) (row : Word16) (clean : Bool) :
    let pin := if clean = true ∧ s.rows.find row ≠ none then s.rows.find row else s.rows.pinned
    (s.releaseRows row clean).rows.pinned = pin ∧ ∀ i : Fin 4,
      let before := InUse s i true ∨ s.rows.pinned = some i
      let after := InUse s i false ∨ pin = some i
      (before ∧ ¬ after → (s.releaseRows row clean).rows.slots[i] = none) ∧
      (before → after → (s.releaseRows row clean).rows.slots[i].map Slot.content = s.rows.slots[i].map Slot.content) ∧
      (¬ before → (s.releaseRows row clean).rows.slots[i].map Slot.content = s.rows.slots[i].map Slot.content) := by
  intro pin
  have pinned := s.rows.movePin_pinned row clean
  have slots := s.rows.movePin_slots row clean
  have content (i : Fin 4) := foldl_free_content (fun i =>
    (slotInUse s.course s.rows i true || s.rows.pinned == some i) &&
      !(slotInUse s.course (s.rows.movePin row clean) i false || (s.rows.movePin row clean).pinned == some i))
    allSlots (s.rows.movePin row clean) i
  have used (i : Fin 4) : slotInUse s.course (s.rows.movePin row clean) i false = slotInUse s.course s.rows i false := by
    simp only [slotInUse, slots]
  refine ⟨(foldl_free_pinned _ _ _).trans pinned, fun i => ?_⟩
  have frees : ((slotInUse s.course s.rows i true || s.rows.pinned == some i) &&
      !(slotInUse s.course (s.rows.movePin row clean) i false || (s.rows.movePin row clean).pinned == some i)) = true ↔
      (InUse s i true ∨ s.rows.pinned = some i) ∧ ¬ (InUse s i false ∨ pin = some i) := by
    rw [used, pinned, Bool.and_eq_true, Bool.or_eq_true, slotInUse_iff, beq_iff_eq, Bool.not_eq_true', Bool.eq_false_iff, ne_eq,
      Bool.or_eq_true, slotInUse_iff, beq_iff_eq]
  have kept (stays : ¬ ((InUse s i true ∨ s.rows.pinned = some i) ∧ ¬ (InUse s i false ∨ pin = some i))) :
      (s.releaseRows row clean).rows.slots[i].map Slot.content = s.rows.slots[i].map Slot.content := by
    have same : (s.rows.movePin row clean).slots[i] = s.rows.slots[i] := by rw [slots]
    exact (content i).trans ((if_neg fun h => stays (frees.1 h.2)).trans (by rw [same]))
  refine ⟨fun gone => ?_, fun _ after => kept fun gone => gone.2 after, fun unused => kept fun gone => unused gone.1⟩
  exact Option.map_eq_none_iff.1 ((content i).trans (if_pos ⟨mem_allSlots i, frees.2 gone⟩))

/-! ### The pages -/

theorem CourseCtl.coversRow_iff (s : State) (row : Word16) : s.course.coversRow row = true ↔ CoversRow s row := by
  unfold CourseCtl.coversRow CoversRow
  cases s.course.standby <;> simp

theorem keepPage_spec (s : State) {page : Option Page} {p : Page} (is : page = some p) :
    (CoversRow s p.row → keepPage s.course page = some p) ∧ (¬ CoversRow s p.row → keepPage s.course page = none) := by
  rw [is, ← CourseCtl.coversRow_iff]
  exact ⟨fun covered => if_pos covered, fun free => if_neg free⟩

/-! ### The end as a whole -/

theorem enterVerdict_history (s : State) (v : Bool) : (s.enterVerdict v).ctl.history = pushVerdict s.ctl.history v := by
  unfold State.enterVerdict
  dsimp only
  split_ifs <;> rfl

section End
variable (s : State) (a : Active)

theorem settledEnd_same : SameExcept (([.float, .headWaiting, .headFire] : List Part) ++ leaveParts ++ judgeParts) s s.settledEnd :=
  (settledEnd_frame s).same

/-- What a course end has left alone when it comes to rows and pages. -/
theorem verdictEnd_same :
    SameExcept (([.float, .headWaiting, .headFire, .history] : List Part) ++ leaveParts ++ judgeParts) s (s.verdictEnd a) :=
  ((settledEnd_frame s).then ((reportedEnd_frame s a).then (verdictEnd_frame s a)
    (n := [.transmitList, .counts, .history, .causes, .latch]))).same

theorem verdictEnd_inUse (i : Fin 4) (running : Bool) : InUse (s.verdictEnd a) i running ↔ InUse s i running := by
  have same := verdictEnd_same s a
  have queue : (s.verdictEnd a).course.queue = s.course.queue := same .orderQueue (by decide)
  have standby : (s.verdictEnd a).course.standby = s.course.standby := same .standby (by decide)
  have active : (s.verdictEnd a).course.active = s.course.active := same .active (by decide)
  simp only [InUse, same.rows_eq, queue, standby, active]

theorem verdictEnd_coversRow (row : Word16) : CoversRow (s.verdictEnd a) row ↔ CoversRow s row := by
  have same := verdictEnd_same s a
  have queue : (s.verdictEnd a).course.queue = s.course.queue := same .orderQueue (by decide)
  have standby : (s.verdictEnd a).course.standby = s.course.standby := same .standby (by decide)
  simp only [CoversRow, queue, standby]

/-- The row store after a course end (R36, R37). -/
theorem endCourse_rows :
    let pin := if s.course.cleanRead = true ∧ s.rows.find a.order.row ≠ none then s.rows.find a.order.row else s.rows.pinned
    (s.endCourse a).rows.pinned = pin ∧ ∀ i : Fin 4,
      let before := InUse s i true ∨ s.rows.pinned = some i
      let after := InUse s i false ∨ pin = some i
      (before ∧ ¬ after → (s.endCourse a).rows.slots[i] = none) ∧
      (before → after → (s.endCourse a).rows.slots[i].map Slot.content = s.rows.slots[i].map Slot.content) ∧
      (¬ before → (s.endCourse a).rows.slots[i].map Slot.content = s.rows.slots[i].map Slot.content) := by
  have same := verdictEnd_same s a
  have clean : (s.verdictEnd a).course.cleanRead = s.course.cleanRead := same .cleanRead (by decide)
  have rows := State.endCourse_rows s a
  obtain ⟨pinned, slots⟩ := releaseRows_spec (s.verdictEnd a) a.order.row (s.verdictEnd a).course.cleanRead
  rw [← rows, clean, same.rows_eq] at pinned slots
  refine ⟨pinned, fun i => ?_⟩
  have slot := slots i
  simp only [verdictEnd_inUse] at slot
  exact slot

omit s a in
theorem State.retired_claim (s : State) : s.retired.claim = s.claim := rfl

omit s a in
theorem releasePages_releaseRows (s : State) (row : Word16) (clean : Bool) :
    (s.releaseRows row clean).releasePages.claim.page0 = keepPage s.course s.claim.page0 ∧
    (s.releaseRows row clean).releasePages.claim.page1 = keepPage s.course s.claim.page1 := ⟨rfl, rfl⟩

/-- Each page of a course end is kept or let go by what the course unit still names (R97). -/
theorem endCourse_pages :
    (s.endCourse a).claim.page0 = keepPage (s.verdictEnd a).course (s.verdictEnd a).claim.page0 ∧
    (s.endCourse a).claim.page1 = keepPage (s.verdictEnd a).course (s.verdictEnd a).claim.page1 := by
  have released : (s.endCourse a).claim =
      ((s.verdictEnd a).releaseRows a.order.row (s.verdictEnd a).course.cleanRead).releasePages.claim := by
    rw [State.endCourse_eq, State.retired_claim, State.releasedEnd]
  rw [released]
  exact releasePages_releaseRows (s.verdictEnd a) _ _

theorem endCourse_page (p : Page) :
    (s.claim.page0 = some p → (CoversRow s p.row → (s.endCourse a).claim.page0 = some p) ∧
      (¬ CoversRow s p.row → (s.endCourse a).claim.page0 = none)) ∧
    (s.claim.page1 = some p → (CoversRow s p.row → (s.endCourse a).claim.page1 = some p) ∧
      (¬ CoversRow s p.row → (s.endCourse a).claim.page1 = none)) := by
  obtain ⟨page0, page1⟩ := verdictEnd_same s a .pages (by decide)
  obtain ⟨kept0, kept1⟩ := endCourse_pages s a
  rw [kept0, kept1, ← verdictEnd_coversRow s a p.row]
  exact ⟨fun is => keepPage_spec (s.verdictEnd a) (page0.trans is), fun is => keepPage_spec (s.verdictEnd a) (page1.trans is)⟩

theorem endCourse_ctl : (s.endCourse a).ctl = (s.verdictEnd a).ctl :=
  ((releasedEnd_frame s a).then (retired_frame _) (n := [.rowSlots, .rowPinned, .pages, .active, .posFrontier])).same.ctl_eq

theorem endCourse_history : (s.endCourse a).ctl.history.toList =
    ((s.endCourse a).course.tally.failed != 0 || (s.endCourse a).course.tally.untracked != 0 ||
      (s.endCourse a).course.flags &&& 0x17F != 0) :: s.ctl.history.toList.dropLast := by
  have ended := reportedEnd_endCourse_frame s a
  have tally : (s.endCourse a).course.tally = (s.reportedEnd a).course.tally := ended.get .tally
  have flags : (s.endCourse a).course.flags = (s.reportedEnd a).course.flags := ended.get .courseFlags
  have history : (s.reportedEnd a).ctl.history = s.ctl.history :=
    ((reportedEnd_frame s a).get .history).trans (settledEnd_same s .history (by decide))
  rw [endCourse_ctl, State.verdictEnd, enterVerdict_history, pushVerdict_toList, history, tally, flags]
  rfl

theorem reportedEnd_unclean : (s.reportedEnd a).isRecorded .unclean = s.isRecorded .unclean := by
  have offered : (s.reportedEnd a).ctl = s.settledEnd.ctl := (reportedEnd_frame s a).same.ctl_eq
  have before : s.detached.pinSettled.ctl = s.ctl := (pinSettled_frame s.detached).same.ctl_eq.trans (detached_frame s).same.ctl_eq
  have flagged : s.detached.pinSettled.waitFlagged.isRecorded .unclean = s.detached.pinSettled.isRecorded .unclean :=
    waitFlagged_recorded (by decide)
  calc (s.reportedEnd a).isRecorded .unclean = s.settledEnd.isRecorded .unclean := by simp only [State.isRecorded, offered]
    _ = s.detached.pinSettled.isRecorded .unclean := flagged
    _ = s.isRecorded .unclean := by simp only [State.isRecorded, before]

/-- The cause UNCLEAN after a course end (R187). -/
theorem endCourse_unclean {r : SetupRec} (taken : s.setup? = some r) :
    (r.unclean < (s.endCourse a).ctl.history.toList.count true →
      (s.endCourse a).isRecorded .unclean = true ∧ (s.endCourse a).ctl.latch = true) ∧
    ((s.endCourse a).ctl.history.toList.count true ≤ r.unclean →
      (s.endCourse a).isRecorded .unclean = s.isRecorded .unclean) := by
  have mode : (s.reportedEnd a).ctl.mode = s.ctl.mode :=
    ((reportedEnd_frame s a).get .mode).trans (settledEnd_same s .mode (by decide))
  have verdict := enterVerdict_unclean ((setup?_of_mode mode).trans taken) (s.reportedEnd a).course.unclean
  have ctl := endCourse_ctl s a
  rw [reportedEnd_unclean] at verdict
  simp only [State.isRecorded, ctl] at verdict ⊢
  exact verdict

theorem settledEnd_reportDrops : s.settledEnd.count .reportDrops = s.count .reportDrops := by
  have left : CountsExcept leaveCounters s.allFinal s.allFinal.leave := leaveFrom_counts _ _
  have closed := left.leaves (closeRun_counts _) .reportDrops (by decide)
  have settled : s.settledEnd.count .reportDrops = s.listClosed.count .reportDrops := by
    simp only [State.count, settledEnd_counts]
  exact settled.trans closed

/-- The REPORT of a course is placed after the CLAIMs of its end (R61, R156). -/
theorem endCourse_placed : Placed (.report (s.settledEnd.reportOf a (endKindOf a s.course.tally.decided))) .reportDrops
    s.listClosed.line.list s (s.endCourse a) := by
  have list : s.settledEnd.line.list = s.listClosed.line.list := (detached_settledEnd_frame s).get .transmitList
  have placed := placed_offer (n := .report (s.settledEnd.reportOf a (endKindOf a s.course.tally.decided)))
    (k := .reportDrops) rfl rfl rfl (reportedEnd_endCourse_frame s a)
  unfold Placed at placed ⊢
  rwa [list, settledEnd_reportDrops] at placed

/-- What the REPORT says (R59, R61). -/
theorem endCourse_report : let rep := s.settledEnd.reportOf a (endKindOf a s.course.tally.decided)
    rep.pass = a.order.pass ∧ rep.row = a.order.row ∧ rep.flags = (s.endCourse a).course.flags ∧
    rep.tally = (s.endCourse a).course.tally ∧ rep.freeSlots = s.rows.freeCount ∧
    rep.freeOrders = 8 - s.course.queue.length ∧ (a.order.role = .idle → rep.kind = .idle) ∧
    (a.order.role ≠ .idle → s.course.tally.decided = a.order.winLast + 1 - a.order.winFirst → rep.kind = .complete) ∧
    (a.order.role ≠ .idle → s.course.tally.decided ≠ a.order.winLast + 1 - a.order.winFirst → rep.kind = .cut) ∧
    (a.order.role ≠ .cover → rep.doubles = 0 ∧ rep.lateDoubles = 0) ∧
    (a.order.role = .cover → ∀ p, s.claim.pageOf a.order.row = some p →
      rep.doubles = p.doubles ∧ rep.lateDoubles = p.lateDoubles) := by
  have same := settledEnd_same s
  have ended := settledEnd_endCourse_frame s a
  obtain ⟨page0, page1⟩ := same .pages (by decide)
  have queue : s.settledEnd.course.queue = s.course.queue := same .orderQueue (by decide)
  refine ⟨rfl, rfl, (ended.get .courseFlags).symm, (ended.get .tally).symm, congrArg RowStore.freeCount same.rows_eq,
    congrArg (8 - List.length ·) queue, fun idle => if_pos idle, fun role whole => (if_neg role).trans (if_pos whole),
    fun role part => (if_neg role).trans (if_neg part), fun other => ⟨if_neg other, if_neg other⟩, fun cover p bound => ?_⟩
  have page : s.settledEnd.claim.pageOf a.order.row = some p := (pageOf_of_pages page0 page1 _).trans bound
  constructor <;> simp only [State.reportOf, if_pos cover, page]

end End

/-- Settles O30: the end step by step, and what each step leaves of the ones before. -/
theorem courseEndReportsTheCourse : Obligations.CourseEndReportsTheCourse := by
  intro s a r active taken
  obtain ⟨outcomes, float⟩ := endCourse_dec s a
  obtain ⟨engaged, engaging, still⟩ := endCourse_pin s a
  obtain ⟨many, few⟩ := endCourse_unclean s a taken
  have run : (s.endCourse a).claim.run = none :=
    ((settledEnd_endCourse_frame s a).get .openRun).trans (((detached_settledEnd_frame s).get .openRun).trans
      (closeRun_run s.allFinal.leave))
  have carr : (s.endCourse a).carr.course = none := by rw [endCourse_carr, settledEnd_eq]; rfl
  refine ⟨rfl, outcomes, float, run, endCourse_head s a, carr, rfl, engaged, engaging, still,
    fun cc course own waiting => endCourse_missed s a course own waiting, ?_, endCourse_ended s a, endCourse_history s a,
    many, few, endCourse_rows s a, fun p => (endCourse_page s a p).1, fun p => (endCourse_page s a p).2, ?_⟩
  · rw [endCourse_tally]
    exact listClosed_failed s
  · rw [← endEntry_eq]
    exact ⟨fun silent closed => listClosed_list active silent closed, _, endCourse_placed s a, endCourse_report s a⟩

end Sys2Proof.Machine
end

section
/-! PROOF. A direction change in RUN ends the running course and starts the next one (R14, R16, R47, R50 to R56,
R98). -/

namespace Sys2Proof.Machine

/-! ### The context that becomes ACTIVE -/

section NextActive
variable {c : CourseCtl} (dir : Dir)

/-- The idle context of an EMPTY STANDBY (R51). -/
theorem CourseCtl.nextActive_of_empty (empty : c.standby = none) : c.nextActive dir =
    { order := idleOrder (c.expected.getD 0), status := .primed, travel := dir, starved := true } := by
  simp only [CourseCtl.nextActive, empty]

/-- The order in STANDBY, as it is or as IDLE (R50, R52). -/
theorem CourseCtl.nextActive_of_held {b : Standby} (held : c.standby = some b) : c.nextActive dir =
    { order := if b.order.direction = dir then b.order else b.order.idled, status := b.status, travel := dir,
      starved := false } := by
  simp only [CourseCtl.nextActive, held]

theorem CourseCtl.nextActive_travel (c : CourseCtl) : (c.nextActive dir).travel = dir := by
  cases held : c.standby with
  | none => rw [CourseCtl.nextActive_of_empty dir held]
  | some b => rw [CourseCtl.nextActive_of_held dir held]

theorem CourseCtl.nextActive_starved (c : CourseCtl) : (c.nextActive dir).starved = true ↔ c.standby = none := by
  cases held : c.standby with
  | none => simp [CourseCtl.nextActive_of_empty dir held]
  | some b => simp [CourseCtl.nextActive_of_held dir held]

theorem CourseCtl.mismatched_iff (c : CourseCtl) :
    c.mismatched dir = true ↔ ∃ b, c.standby = some b ∧ b.order.direction ≠ dir := by
  cases held : c.standby <;> simp [CourseCtl.mismatched, held]

/-- The context that becomes ACTIVE is made of STANDBY and the expected pass. -/
theorem CourseCtl.nextActive_congr {c d : CourseCtl} (standby : d.standby = c.standby) (expected : d.expected = c.expected) :
    d.nextActive dir = c.nextActive dir := by
  simp only [CourseCtl.nextActive, standby, expected]

end NextActive

theorem decidesNothing_idleOrder (pass : Word16) : DecidesNothing (idleOrder pass) :=
  ⟨rfl, Nat.one_pos, rfl, rfl, rfl⟩

theorem decidesNothing_idled (o : Order) : DecidesNothing o.idled := ⟨rfl, Nat.one_pos, rfl, rfl, rfl⟩

/-! ### The flags of the start -/

theorem State.isCourseFlag_flagWhen (s : State) (b : Bool) (f g : CourseFlag) :
    (s.flagWhen b f).isCourseFlag g = (s.isCourseFlag g || (b && decide (f = g))) := by
  cases b with
  | true =>
    rw [Bool.true_and]
    exact State.isCourseFlag_setCourseFlag s f g
  | false => simp [State.flagWhen]

/-- A course flag that is newly set records its stop cause (R184, R185). -/
theorem raised_flagWhen {s : State} {f : CourseFlag} {c : StopCause} (clear : s.isCourseFlag f = false)
    (cause : f.cause = some c) : (s.flagWhen true f).isRecorded c = true ∧ (s.flagWhen true f).ctl.latch = true :=
  (flagged_setCourseFlag s cause).2 clear

theorem State.begun_isCourseFlag (s : State) (dir : Dir) (k : CourseFlag) : (s.begun dir).isCourseFlag k = false :=
  BitVec.getLsbD_zero

section Activate
variable (s : State) (dir : Dir)

/-- The course flags as the start finds them (R51, R52, R166). -/
theorem State.activate_isCourseFlag (k : CourseFlag) : (s.activate dir).isCourseFlag k =
    ((((s.course.nextActive dir).starved && decide (.starve = k)) ||
      (s.course.mismatched dir && decide (.direction = k))) || (s.line.degraded && decide (.lineDegraded = k))) := by
  rw [State.activate_eq, State.isCourseFlag_flagWhen, State.isCourseFlag_flagWhen, State.isCourseFlag_flagWhen,
    State.begun_isCourseFlag, Bool.false_or]

/-- STARVE is a stop cause (R51). -/
theorem activate_starve (empty : s.course.standby = none) :
    (s.activate dir).isRecorded .starve = true ∧ (s.activate dir).ctl.latch = true := by
  have raised := raised_flagWhen (f := .starve) (c := .starve) (s.begun_isCourseFlag dir .starve) rfl
  have rest := (flagWhen_frame ((s.begun dir).flagWhen true .starve) (s.course.mismatched dir) .direction).rises.then
    (flagWhen_frame _ s.line.degraded .lineDegraded).rises
  rw [State.activate_eq, (s.course.nextActive_starved dir).2 empty]
  exact ⟨rest.causes _ raised.1, rest.latch raised.2⟩

/-- DIRECTION is a stop cause (R52). -/
theorem activate_direction {b : Standby} (held : s.course.standby = some b) (other : b.order.direction ≠ dir) :
    (s.activate dir).isRecorded .direction = true ∧ (s.activate dir).ctl.latch = true := by
  let u := (s.begun dir).flagWhen (s.course.nextActive dir).starved .starve
  have clear : u.isCourseFlag .direction = false := by
    rw [State.isCourseFlag_flagWhen, State.begun_isCourseFlag]
    simp
  have raised := raised_flagWhen (c := .direction) clear rfl
  have rest := (flagWhen_frame (u.flagWhen true .direction) s.line.degraded .lineDegraded).rises
  rw [State.activate_eq, (s.course.mismatched_iff dir).2 ⟨b, held, other⟩]
  exact ⟨rest.causes _ raised.1, rest.latch raised.2⟩

/-- A pass beside the expected one sets PASS SKEW (R53). -/
theorem activate_passSkew {p : Word16} (expected : s.course.expected = some p)
    (skewed : p ≠ (s.course.nextActive dir).order.pass) : (s.activate dir).isSticky .passSkew = true := by
  have found : s.course.skewed (s.course.nextActive dir) = true := by
    simpa [CourseCtl.skewed, expected] using skewed.symm
  have judged : s.skewJudged dir = s.setSticky .passSkew := if_pos found
  have set : (s.begun dir).isSticky .passSkew = true := by
    show (s.skewJudged dir).isSticky .passSkew = true
    rw [judged, State.isSticky_setSticky]
    simp
  exact (begun_activate_frame s dir).rises.sticky _ set

end Activate

/-! ### The listen mask of a COVER course -/

/-- A page of the row listens to the mask (R98). -/
def ListensTo (row : Word16) (mask : Flags16) (_ : Nat) (p : Page) : Prop := p.row = row → p.listen = mask

theorem eachPage_reads (P : Nat → Page → Prop) : Reads (State.EachPage P) [.pages, .mode] := by
  constructor
  intro s t same before
  obtain ⟨page0, page1⟩ : t.claim.page0 = s.claim.page0 ∧ t.claim.page1 = s.claim.page1 := same .pages (by decide)
  have mode : t.ctl.mode = s.ctl.mode := same .mode (by decide)
  have width : t.width = s.width := by simp only [State.width, State.param, State.setup?, mode]
  unfold State.EachPage
  rwa [page0, page1, width]

/-- An arrival leaves the listen mask of every page. -/
theorem listensTo_arrive (row : Word16) (mask : Flags16) (s : State) (n : Nat) :
    s.EachPage (ListensTo row mask) → (s.arrive n).EachPage (ListensTo row mask) := by
  have reads := eachPage_reads (ListensTo row mask)
  refine reads.arrive (fun s _ _ => reads.frame (setDec_float_frame s _)) (fun s a n x h => ?_)
    (fun s n k x g => reads.frame (enter_frame s n k x g)) (fun s n h d => reads.frame (request_frame s n h d))
    (fun s => reads.frame (leave_frame s)) (by decide) s n
  unfold State.markOwn
  split
  · exact eachPage_changePage (fun _ listens => listens) h
  · exact h

theorem listensTo_openFrontier {row : Word16} {mask : Flags16} {s : State} (before : s.EachPage (ListensTo row mask)) :
    s.openFrontier.EachPage (ListensTo row mask) := by
  cases idx : s.pos.idx with
  | none =>
    have still : s.openFrontier = s := by simp only [State.openFrontier, idx]
    rwa [still]
  | some i =>
    rw [State.openFrontier_of_idx idx]
    split
    · exact listensTo_arrive row mask (s.setPos _) _ before
    · exact before

/-- The page of a COVER course takes the order's mask without the own flag (R98). -/
theorem listensTo_listenPage (s : State) {a : Active} (cover : a.order.role = .cover) :
    (s.listenPage a).EachPage
      (ListensTo a.order.row (a.order.listen &&& ~~~(1#16 <<< s.ctl.station.toNat))) := by
  have masked (o : Option Page) (p : Page) (found : onRow a.order.row
      (fun q => { q with listen := clearBit a.order.listen s.ctl.station.toNat }) o = some p) :
      p.row = a.order.row → p.listen = a.order.listen &&& ~~~(1#16 <<< s.ctl.station.toNat) := by
    obtain ⟨q, rfl, rfl⟩ := Option.map_eq_some_iff.1 found
    split
    · exact fun _ => rfl
    next other => exact fun same => absurd same other
  rw [State.listenPage, if_pos cover]
  exact eachPage_setClaim (masked _) (masked _)

theorem listensTo_contextBegun (s : State) {a : Active} (cover : a.order.role = .cover) :
    (s.contextBegun a).EachPage
      (ListensTo a.order.row (a.order.listen &&& ~~~(1#16 <<< s.ctl.station.toNat))) :=
  listensTo_listenPage _ cover

theorem listensTo_startCourse (s : State) (dir : Dir) (cover : (s.course.nextActive dir).order.role = .cover) :
    (s.startCourse dir).EachPage (ListensTo (s.course.nextActive dir).order.row
      ((s.course.nextActive dir).order.listen &&& ~~~(1#16 <<< s.ctl.station.toNat))) := by
  have loaded := (activate_frame s dir).then (loadBacking_frame _ (s.course.nextActive dir)) (n := startParts)
  obtain ⟨station, _⟩ := loaded.get .straps
  have begun := listensTo_contextBegun ((s.activate dir).loadBacking (s.course.nextActive dir)) cover
  rw [station] at begun
  have primed := (formCarrier_frame (((s.activate dir).loadBacking (s.course.nextActive dir)).contextBegun
    (s.course.nextActive dir)) (s.course.nextActive dir)).then (prime_frame _) (n := .standbyTake :: judgeParts ++
      [.orderQueue, .standby, .transmitList, .counts])
  exact (eachPage_reads _).frame primed (by decide) begun

/-! ### From the context to the open frontier -/

/-- What the start of a course changes from its context to the priming. -/
def handedParts : List Part := ([.backingTable, .backingShadow, .backingPhase] : List Part) ++ contextParts

theorem handed_frame (s : State) (a : Active) : Frame handedParts s ((s.loadBacking a).handContext a) :=
  (loadBacking_frame s a).then (handContext_frame _ a)

/-- What the start of a course changes from the priming on. -/
def openedParts : List Part :=
  ([.orderQueue, .standby, .standbyTake, .transmitList, .counts] : List Part) ++ (.posFrontier :: arrivalParts)

theorem primed_frame_openFrontier (s : State) : Frame openedParts s s.prime.openFrontier :=
  (prime_frame s).then (openFrontier_frame _)

section Start
variable (s : State) (dir : Dir)

/-- The station with the context of the next course handed to the blocks (R50). -/
def State.handed : State :=
  ((s.activate dir).loadBacking (s.course.nextActive dir)).handContext (s.course.nextActive dir)

theorem State.startCourse_handed : s.startCourse dir = (s.handed dir).prime := rfl

theorem activate_handed_frame : Frame handedParts (s.activate dir) (s.handed dir) := handed_frame _ _

theorem activate_standby : (s.activate dir).course.standby = none := (begun_activate_frame s dir).get .standby

theorem handed_standby : (s.handed dir).course.standby = none :=
  (show _ = _ from (activate_handed_frame s dir).get .standby).trans (activate_standby s dir)

theorem handed_queue : (s.handed dir).course.queue = s.course.queue :=
  (show _ = _ from (activate_handed_frame s dir).get .orderQueue).trans ((activate_frame s dir).get .orderQueue)

/-- The queue primes STANDBY again (R47). -/
theorem handed_prime :
    (s.course.queue = [] → s.startCourse dir = s.handed dir) ∧
    ∀ o os, s.course.queue = o :: os →
      (s.startCourse dir).course.queue = os ∧ EnteredStandby (s.handed dir) (s.startCourse dir) o :=
  ⟨fun none => State.prime_of_idle (.inr ((handed_queue s dir).trans none)),
    fun _ _ queue => enteredStandby_prime (u := s.handed dir) (handed_standby s dir) ((handed_queue s dir).trans queue)
      rfl rfl rfl rfl rfl⟩

theorem started_orders :
    let t := (s.startCourse dir).openFrontier
    (s.course.queue = [] → t.course.standby = none ∧ t.course.queue = []) ∧
    ∀ o os, s.course.queue = o :: os → t.course.queue = os ∧ ∃ y, t.course.standby = some y ∧ y.order = o := by
  intro t
  have opened := openFrontier_frame (s.startCourse dir)
  have standby : t.course.standby = (s.startCourse dir).course.standby := opened.get .standby
  have queue : t.course.queue = (s.startCourse dir).course.queue := opened.get .orderQueue
  obtain ⟨idle, primes⟩ := handed_prime s dir
  refine ⟨fun none => ?_, fun o os waits => ?_⟩
  · rw [standby, queue, idle none]
    exact ⟨handed_standby s dir, (handed_queue s dir).trans none⟩
  · obtain ⟨left, ⟨y, entered, same, _⟩, _⟩ := primes o os waits
    exact ⟨queue.trans left, y, standby.trans entered, same⟩

/-- A pending load is applied, and a BACKING course advances the phase (R55, R56). -/
theorem started_backing :
    let t := (s.startCourse dir).openFrontier
    let x := s.course.nextActive dir
    let phase := if s.course.shadow = none then s.course.phase else 0
    t.course.table = s.course.shadow.getD s.course.table ∧ t.course.shadow = none ∧
      t.course.phase = if x.order.role = .backing then (phase + x.order.step) % t.course.table.length else phase := by
  intro t x phase
  have begun := activate_frame s dir
  have shadow : (s.activate dir).course.shadow = s.course.shadow := begun.get .backingShadow
  have table : (s.activate dir).course.table = s.course.table := begun.get .backingTable
  have place : (s.activate dir).course.phase = s.course.phase := begun.get .backingPhase
  have rest : Frame (contextParts ++ openedParts) ((s.activate dir).loadBacking x) t :=
    (handContext_frame _ x).then (primed_frame_openFrontier _)
  have newTable : t.course.table = s.course.shadow.getD s.course.table := by
    rw [show _ = _ from rest.get .backingTable, ← shadow, ← table]
    rfl
  have newPhase : (if s.course.shadow.isSome = true then 0 else s.course.phase) = phase := by
    cases pending : s.course.shadow <;> simp [phase, pending]
  refine ⟨newTable, rest.get .backingShadow, ?_⟩
  rw [newTable, ← newPhase, show _ = _ from rest.get .backingPhase, ← shadow, ← table, ← place]
  rfl

theorem started_rises : Rises (s.activate dir) (s.startCourse dir).openFrontier :=
  (startCourse_after_activate_frame s dir).rises.then (openFrontier_frame _).rises

end Start

/-- The frontier is the decision index, whose needle arrives when it is on the bed (R16). -/
theorem State.openFrontier_opens {s u : State} {i : Indices} (width : u.width = s.width) (idx : u.pos.idx = some i) :
    let v := u.setPos { u.pos with frontier := some i.d }
    u.openFrontier = (if 0 ≤ i.d ∧ i.d < (s.width : Int) then v.arrive i.d.toNat else v) ∧
      u.openFrontier.pos.frontier = some i.d := by
  rw [State.openFrontier_of_idx idx, width]
  refine ⟨rfl, ?_⟩
  split
  · exact (arrive_frame _ _).get .posFrontier
  · rfl

/-! ### The turn -/

/-- What a turn in RUN changes before the next course starts. -/
def beforeStartParts : List Part := ([.posPhase, .posC, .posTracker, .posIndices] : List Part) ++ endParts

theorem ended_of_turn_frame (s : State) (a b : Bool) (d : Int) :
    Frame beforeStartParts s ((s.takePhase a b).counting d).form.ended :=
  (((takePhase_frame s a b).then (counting_frame _ d) (n := beforeStartParts)).then (form_frame _)
    (n := beforeStartParts)).then (ended_frame _)

/-- What the activation of the next context leaves (R50 to R54, R166). -/
theorem activated (s : State) (dir : Dir) :
    let g := s.activate dir
    SameExcept [.standby, .active, .expected, .courseFlags, .tally, .sticky, .causes, .latch] s g ∧
    g.course.standby = none ∧ g.course.active = some (s.course.nextActive dir) ∧ g.course.tally = ⟨0, 0, 0, 0, 0, 0, 0⟩ ∧
    (g.isCourseFlag .starve = true ↔ s.course.standby = none) ∧
    (g.isCourseFlag .direction = true ↔ ∃ y, s.course.standby = some y ∧ y.order.direction ≠ dir) ∧
    g.isCourseFlag .lineDegraded = s.line.degraded ∧
    ∀ k, k ≠ .starve → k ≠ .direction → k ≠ .lineDegraded → g.isCourseFlag k = false := by
  refine ⟨(activate_frame s dir).same.mono, activate_standby s dir, s.activate_active dir, activate_tally s dir, ?_, ?_, ?_,
    fun k starve direction degraded => ?_⟩
  · rw [State.activate_isCourseFlag, ← s.course.nextActive_starved dir]
    simp
  · rw [State.activate_isCourseFlag, ← s.course.mismatched_iff dir]
    simp
  · rw [State.activate_isCourseFlag]
    simp
  · rw [State.activate_isCourseFlag]
    simp [starve.symm, direction.symm, degraded.symm]

/-- Settles O20: the course of the turn ends, the context of STANDBY is activated, handed over and primed, and the
frontier opens. -/
theorem turnInRunStartsACourse : Obligations.TurnInRunStartsACourse := by
  intro a b s d r dir legal moves inside run turn
  let m := ((s.takePhase a b).counting d).form
  let e := m.ended
  let t := (e.startCourse dir).openFrontier
  have before : Frame beforeStartParts s e := ended_of_turn_frame s a b d
  have standby : e.course.standby = s.course.standby := before.get .standby
  have expected : e.course.expected = s.course.expected := before.get .expected
  have queue : e.course.queue = s.course.queue := before.get .orderQueue
  have degraded : e.line.degraded = s.line.degraded := before.get .health
  have mode : m.ctl.mode = .run r := (show _ = _ from (form_frame _).get .mode).trans run
  have next : exec (.encoderEdge a b) s = .next t := by
    rw [exec_encoderEdge_of_quadrature legal, if_neg moves, State.legalEdge_of_turn (s := s.takePhase a b) inside turn,
      State.directionChange_of_run mode]
  have tracked : t.pos.tracker = trackerAfter (s.pos.c + d) s.pos.tracker :=
    (((form_frame ((s.takePhase a b).counting d)).then (ended_frame m) (n := ([.posIndices] : List Part) ++ endParts)).then
      ((startCourse_frame e dir).then (openFrontier_frame _) (n := startParts ++ (.posFrontier :: arrivalParts)))
      (n := ([.posIndices] : List Part) ++ endParts ++ startParts ++ (.posFrontier :: arrivalParts))).get .posTracker
  have rises : Rises (e.activate dir) t := started_rises e dir
  have opened := openFrontier_frame (e.startCourse dir)
  have started := (startCourse_after_activate_frame e dir).then opened
    (n := ([.backingTable, .backingShadow, .backingPhase] : List Part) ++ contextParts ++ openedParts)
  refine ⟨t, next, e.course.nextActive dir, (show _ = _ from started.get .active).trans (e.activate_active dir),
    e.course.nextActive_travel dir,
    (congrArg Tracker.dir tracked).trans (trackerAfter_dir_of_turn turn),
    (show _ = _ from opened.get .posRacking).trans (startCourse_position e dir).1,
    (show _ = _ from started.get .expected).trans ((begun_activate_frame e dir).get .expected),
    fun empty => ?_, fun y held same => ?_, fun y held other => ?_, fun p pass skewed =>
      rises.sticky _ (activate_passSkew e dir (expected.trans pass) skewed), ?_⟩
  · have idle := e.course.nextActive_of_empty dir (standby.trans empty)
    obtain ⟨recorded, latched⟩ := activate_starve e dir (standby.trans empty)
    rw [idle]
    exact ⟨decidesNothing_idleOrder _, rfl, congrArg (·.getD 0) expected, rises.causes _ recorded, rises.latch latched⟩
  · rw [e.course.nextActive_of_held dir (standby.trans held)]
    exact if_pos same
  · obtain ⟨recorded, latched⟩ := activate_direction e dir (standby.trans held) other
    rw [e.course.nextActive_of_held dir (standby.trans held), if_neg other]
    exact ⟨decidesNothing_idled _, rfl, rfl, rises.causes _ recorded, rises.latch latched⟩
  obtain ⟨unqueued, queued⟩ := started_orders e dir
  obtain ⟨table, shadow, phase⟩ := started_backing e dir
  have backing : e.course.table = s.course.table ∧ e.course.shadow = s.course.shadow ∧ e.course.phase = s.course.phase :=
    ⟨before.get .backingTable, before.get .backingShadow, before.get .backingPhase⟩
  rw [backing.1, backing.2.1] at table
  rw [backing.2.1, backing.2.2] at phase
  rw [queue] at unqueued queued
  refine ⟨unqueued, queued, table, shadow, phase, fun cover p bound => ?_, ?_⟩
  · obtain ⟨station, _⟩ := before.get .straps
    have listens := listensTo_openFrontier (listensTo_startCourse e dir cover)
    rw [station] at listens
    obtain ⟨same, place⟩ := ClaimUnit.pageOf_eq_some bound
    exact place.elim (fun page => listens.1 p page same) (fun page => listens.2 p page same)
  intro m' e' g w u
  have running : m.course.active = s.course.active := (form_frame _).get .active
  have same : e' = e := by
    simp only [e']
    split
    next y active => exact (State.ended_of_running (running.trans active)).symm
    next idle => exact (State.ended_of_noCourse (running.trans idle)).symm
  clear_value e'
  subst same
  obtain ⟨kept, empty, active, tally, starve, direction, line, others⟩ := activated e dir
  rw [standby] at starve direction
  obtain ⟨idle, primes⟩ := handed_prime e dir
  rw [queue] at idle primes
  have width : (e.startCourse dir).width = s.width := by
    have kept : (e.startCourse dir).ctl.mode = s.ctl.mode := (startCourse_frame e dir).get .mode |>.trans (before.get .mode)
    simp only [State.width, State.param, State.setup?, kept]
  exact ⟨kept, empty, active, tally, starve, direction, line.trans degraded, others, idle,
    fun o os waits => ⟨(primes o os waits).2, (prime_frame (e.handed dir)).same⟩,
    fun i idx => State.openFrontier_opens width idx⟩

end Sys2Proof.Machine
end
